-- ==== Sys2Proof/Word.lean ====
section
/-! DEFINITION. The value types of the block (10_state R20 to R23, 40_symbol_codec preamble) and the fixed
protocol constants (00_scope R7), which no model may change. -/

namespace Sys2Proof

/-- A byte: 8 bits, unsigned (00_scope R10). -/
abbrev Byte := BitVec 8

/-- The 32-bit word of the `packet` and `package` registers (10_state R22, R23). -/
abbrev Word := BitVec 32

/-- A symbol: "a 2-bit unsigned value (0..3)" (00_scope R13). -/
abbrev Symbol := BitVec 2

/-- `START`, the first byte of every packet (00_scope R7). -/
abbrev startByte : Byte := 0x02#8

/-- `END`, the last byte of every packet (00_scope R7). -/
abbrev endByte : Byte := 0x03#8

/-- `CHECKSUM_INIT` (00_scope R7). -/
abbrev checksumInit : Byte := 0x00#8

/-- `SYMBOLS_PER_PACKAGE` (00_scope R7). -/
abbrev symbolsPerPackage : Nat := 16

end Sys2Proof
end

