-- ==== Sys2Proof/Config.lean ====
section
/-! DEFINITION. What one instance of the block is built with (00_scope R8, R9) and the values no rule fixes: the
environment's answers (45_port_primitives R150, R155). A configuration is a field of State that no step changes, so a
statement about every state holds for every configuration. -/

namespace Sys2Proof

/-- The limits on remapping the pins (00_scope R8, decision D5): the two data bits are adjacent by construction; the
clock bit and the response bit are single bits outside them. -/
def pinsDisjoint (dataLow : Fin 7) (clockBit responseBit : Fin 8) : Bool :=
  clockBit.val != dataLow.val && clockBit.val != dataLow.val + 1 &&
  (responseBit.val != dataLow.val && responseBit.val != dataLow.val + 1)

/-- The pin assignment: a layout outside decision D5's limits cannot be written down (93_implementation_defined U4). -/
structure Pins where
  /-- Bit of `D0`; `D1` is the next bit up. -/
  dataLow : Fin 7
  /-- Bit of `CLK` in the output register. -/
  clockBit : Fin 8
  /-- Bit of the response line in the input register. -/
  responseBit : Fin 8
  /-- Decision D5 holds of the layout. -/
  legal : pinsDisjoint dataLow clockBit responseBit = true
deriving DecidableEq, Repr

/-- The parameters of one instance (00_scope R8, R9). `OUT_INIT` is the content of `State.out` when a session starts. -/
structure Config where
  /-- `MAX_RETRY`: any value from 0 up (93_implementation_defined U5). -/
  maxRetry : Nat
  /-- `DATA_SETTLE_DELAY` in milliseconds. -/
  dataSettle : Nat
  /-- `RESPONSE_SETTLE_DELAY` in milliseconds. -/
  responseSettle : Nat
  /-- The pin assignment, from which the three masks follow. -/
  pins : Pins
  /-- `DIR_MASK`, uninterpreted (decision D4). -/
  dirMask : Byte
  /-- `PORT_WIDTH` in bits. -/
  portWidth : Nat
  /-- The primitives move a byte (00_scope R8, 90_conflicts C8): no other width can be written down (assumption 24). -/
  portMovesBytes : portWidth = 8
deriving DecidableEq, Repr

/-- The reference pin assignment (00_scope R8): data at bits 1 and 0, clock at bit 3, response at bit 2. -/
def Pins.reference : Pins := { dataLow := 0, clockBit := 3, responseBit := 2, legal := by decide }

/-- The reference configuration (00_scope R8). DESIGN CHOICE (assumption 4): `DIR_MASK`, which the spec leaves open, is 0x0B here. -/
def Config.reference : Config :=
  { maxRetry := 3, dataSettle := 60, responseSettle := 30, pins := Pins.reference, dirMask := 0x0B#8, portWidth := 8,
    portMovesBytes := rfl }

/-- FREE VALUE (assumption 2): what the `n`-th read of the input register answers when no answer has been laid out for it
(decision D1: "free (any byte, any time)"; 93_implementation_defined U8). -/
opaque Config.freeInput : Nat → Byte

/-- FREE VALUE (assumption 3): the `n`-th byte of an endless input stream (93_implementation_defined U24). -/
opaque Config.freeStream : Nat → Byte

end Sys2Proof
end

