-- ==== Sys2Proof/Syntax.lean ====
section
/-! DEFINITION. The enumerated types of the block (10_state R26 to R30, 30_encoding R71 to R75) and its instructions:
one constructor of `Instr` for each row of opcode_table.json. "Instruction" means what 00_scope's mapping says: one named
operation of a component, one transition of the controller, or one step of its phase machine. -/

namespace Sys2Proof

/-- The controller's four states (10_state R26). -/
inductive CtrlState where
  | sendingNew | retransmitting | done | aborted
deriving DecidableEq, Repr

/-- What the controller has just learned (30_encoding R72). -/
inductive Event where
  | byte | eos | ack | nack | timeout | boundOk | boundExceeded | malformed
deriving DecidableEq, Repr

/-- Why the controller is in `aborted` (10_state R27, 60_exceptions R160). -/
inductive Cause where
  | none | malformedSymbolInput | linkNack | linkTimeout | retryBoundExceeded
deriving DecidableEq, Repr

/-- The thirteen positions of the controller's procedure (10_state R28). -/
inductive Phase where
  | init | fetch | symRead | symHigh | symHold | symLow | pollFirst | pollSettle | pollSecond | retryCheck
  | cleanRead | cleanWrite | halt
deriving DecidableEq, Repr

/-- The three classifications of one poll (10_state R30). -/
inductive Classification where
  | ack | nack | timeout
deriving DecidableEq, Repr

/-- The instructions, in the order of opcode_table.json. An operand the table gives no bits (an index, the byte a
transition consumes) is an argument all the same; bits the table gives to a RESULT are no argument (assumption 6). -/
inductive Instr where
  -- SymbolCodec, 40_symbol_codec R80 to R87
  | splitByte (b : Byte)
  | joinSymbols (s0 s1 s2 s3 : Symbol)
  | packSymbol (p : Word) (t : Symbol)
  | extractSymbol (p : Word) (index : Fin 16)
  | symbolOfPacket (w : Word) (index : Fin 16)
  | parseBitPair00
  | parseBitPair01
  | parseBitPair10
  | parseBitPair11
  | formatBitPair0
  | formatBitPair1
  | formatBitPair2
  | formatBitPair3
  -- FrameEncoder, 41_frame_encoder R90
  | encode (payload : Byte)
  -- LinkTransmitter, 42_link_transmitter R100, R102
  | sendSymbolHigh (t : Symbol)
  | sendSymbolLow
  | idleLines
  -- ResponseMonitor, 43_response_monitor R110
  | sampleResponse
  | pollTimeout
  | pollNack
  | pollAck
  -- RetryController, transitions, 44_retry_controller R121 to R131 and 60_exceptions R161
  | snByte (b : Byte)
  | snEos
  | snAck
  | snNack
  | snTimeout
  | snMalformed
  | rtBoundOk
  | rtBoundExceeded
  | rtAck
  | rtNack
  | rtTimeout
  | doneAny (e : Event)
  | abortedAny (e : Event)
  -- RetryController, step machine, 44_retry_controller R135 to R147
  | stepInit
  | stepFetch
  | stepSymRead
  | stepSymHigh
  | stepSymHold
  | stepSymLow
  | stepPollFirst
  | stepPollSettle
  | stepPollSecond
  | stepRetryCheck
  | stepCleanRead
  | stepCleanWrite
  | stepHalt
  -- External primitives, 45_port_primitives R150 to R155
  | readInputRegister
  | readOutputRegister
  | writeOutputRegister (v : Byte)
  | configureDirection (m : Byte)
  | delay (n : Nat)
  | nextByte
deriving DecidableEq, Repr

end Sys2Proof
end

