-- ==== Sys2Proof/WellFormed.lean ====
section
/-! DEFINITION. Which instructions an operation word can hold. Everything else the spec bounds (an index of 0 to 15, a
symbol of 2 bits, a legal pin layout) is bounded by its type, as 93_implementation_defined U12, U13 and U15 ask. -/

namespace Sys2Proof

/-- An instruction fits the model's operation word. The one bound that is not a type's: `delay`'s operand is a natural
number of no stated width (45_port_primitives R154), and the operation word has 32 bits for it (assumption 7). -/
def Instr.wf : Instr → Bool
  | .delay n => decide (n < 2 ^ 32)
  | .splitByte _ | .joinSymbols _ _ _ _ | .packSymbol _ _ | .extractSymbol _ _ | .symbolOfPacket _ _
  | .parseBitPair00 | .parseBitPair01 | .parseBitPair10 | .parseBitPair11
  | .formatBitPair0 | .formatBitPair1 | .formatBitPair2 | .formatBitPair3
  | .encode _ | .sendSymbolHigh _ | .sendSymbolLow | .idleLines
  | .sampleResponse | .pollTimeout | .pollNack | .pollAck
  | .snByte _ | .snEos | .snAck | .snNack | .snTimeout | .snMalformed
  | .rtBoundOk | .rtBoundExceeded | .rtAck | .rtNack | .rtTimeout | .doneAny _ | .abortedAny _
  | .stepInit | .stepFetch | .stepSymRead | .stepSymHigh | .stepSymHold | .stepSymLow
  | .stepPollFirst | .stepPollSettle | .stepPollSecond | .stepRetryCheck
  | .stepCleanRead | .stepCleanWrite | .stepHalt
  | .readInputRegister | .readOutputRegister | .writeOutputRegister _ | .configureDirection _ | .nextByte => true

end Sys2Proof
end

