-- ==== Sys2Proof/Decode.lean ====
section
/-! DEFINITION. The encodings of 30_encoding and the decoder and encoder over them.

The block decodes no instructions (30_encoding, preamble): the rows of opcode_table.json are formats of data, and several
rows share one format and one pattern, so a word alone does not name its operation. An OPERATION WORD of this model
(assumption 5) is therefore six bytes: the code of the operation the spec NAMES, the row's word right-aligned in four bytes,
most significant byte first (20_memory R45: first sent first), and one byte for the operand the table gives no bits. Within
one operation the word's bits decide the row, exactly as 30_encoding's patterns say. -/

namespace Sys2Proof

/-! ### Codes of the enumerated types (30_encoding R71 to R75) -/

/-- `state` code, 2 bits (30_encoding R71). -/
def CtrlState.code : CtrlState → BitVec 2
  | .sendingNew => 0b00#2
  | .retransmitting => 0b01#2
  | .done => 0b10#2
  | .aborted => 0b11#2

/-- `event` code, 3 bits (30_encoding R72). -/
def Event.code : Event → BitVec 3
  | .byte => 0b000#3
  | .eos => 0b001#3
  | .ack => 0b010#3
  | .nack => 0b011#3
  | .timeout => 0b100#3
  | .boundOk => 0b101#3
  | .boundExceeded => 0b110#3
  | .malformed => 0b111#3

/-- The event a 3-bit code names: all eight codes are used (30_encoding R72). -/
def eventOfCode (c : BitVec 3) : Event :=
  match c.toNat with
  | 0 => .byte
  | 1 => .eos
  | 2 => .ack
  | 3 => .nack
  | 4 => .timeout
  | 5 => .boundOk
  | 6 => .boundExceeded
  | _ => .malformed

/-- `cause` code, 3 bits (30_encoding R73); codes 5 to 7 are unused. -/
def Cause.code : Cause → BitVec 3
  | .none => 0#3
  | .malformedSymbolInput => 1#3
  | .linkNack => 2#3
  | .linkTimeout => 3#3
  | .retryBoundExceeded => 4#3

/-- `phase` code, 4 bits (30_encoding R74); codes 13 to 15 are unused. -/
def Phase.code : Phase → BitVec 4
  | .init => 0#4
  | .fetch => 1#4
  | .symRead => 2#4
  | .symHigh => 3#4
  | .symHold => 4#4
  | .symLow => 5#4
  | .pollFirst => 6#4
  | .pollSettle => 7#4
  | .pollSecond => 8#4
  | .retryCheck => 9#4
  | .cleanRead => 10#4
  | .cleanWrite => 11#4
  | .halt => 12#4

/-- Classification code, 2 bits, first sample then second (30_encoding R75); `0b01` is unused. -/
def Classification.code : Classification → BitVec 2
  | .timeout => 0b00#2
  | .nack => 0b10#2
  | .ack => 0b11#2

/-- The step enabled in a phase: "Which step is enabled is a function of `phase` alone" (44_retry_controller R134). -/
def phaseInstr : Phase → Instr
  | .init => .stepInit
  | .fetch => .stepFetch
  | .symRead => .stepSymRead
  | .symHigh => .stepSymHigh
  | .symHold => .stepSymHold
  | .symLow => .stepSymLow
  | .pollFirst => .stepPollFirst
  | .pollSettle => .stepPollSettle
  | .pollSecond => .stepPollSecond
  | .retryCheck => .stepRetryCheck
  | .cleanRead => .stepCleanRead
  | .cleanWrite => .stepCleanWrite
  | .halt => .stepHalt

/-! ### Operations and rejections -/

/-- The operations the spec names, each with the formats of one or more rows (INDEX.md, column "operations covered"). -/
inductive Operation where
  | splitByte | joinSymbols | packSymbol | extractSymbol | symbolOfPacket | parseBitPair | formatBitPair
  | encode | sendSymbol | idleLines | sampleResponse | pollResponse | transition | step
  | readInputRegister | readOutputRegister | writeOutputRegister | configureDirection | delay | nextByte
deriving DecidableEq, Repr

/-- The operation's code: this model's own numbers (assumption 5). -/
def Operation.code : Operation → Byte
  | .splitByte => 0#8
  | .joinSymbols => 1#8
  | .packSymbol => 2#8
  | .extractSymbol => 3#8
  | .symbolOfPacket => 4#8
  | .parseBitPair => 5#8
  | .formatBitPair => 6#8
  | .encode => 7#8
  | .sendSymbol => 8#8
  | .idleLines => 9#8
  | .sampleResponse => 10#8
  | .pollResponse => 11#8
  | .transition => 12#8
  | .step => 13#8
  | .readInputRegister => 14#8
  | .readOutputRegister => 15#8
  | .writeOutputRegister => 16#8
  | .configureDirection => 17#8
  | .delay => 18#8
  | .nextByte => 19#8

/-- The operation a code names; codes from 20 up name none. -/
def operationOfCode (c : Byte) : Option Operation :=
  match c.toNat with
  | 0 => some .splitByte
  | 1 => some .joinSymbols
  | 2 => some .packSymbol
  | 3 => some .extractSymbol
  | 4 => some .symbolOfPacket
  | 5 => some .parseBitPair
  | 6 => some .formatBitPair
  | 7 => some .encode
  | 8 => some .sendSymbol
  | 9 => some .idleLines
  | 10 => some .sampleResponse
  | 11 => some .pollResponse
  | 12 => some .transition
  | 13 => some .step
  | 14 => some .readInputRegister
  | 15 => some .readOutputRegister
  | 16 => some .writeOutputRegister
  | 17 => some .configureDirection
  | 18 => some .delay
  | 19 => some .nextByte
  | _ => none

/-- Why bytes are no operation word. -/
inductive Reject where
  /-- Fewer than six bytes. -/
  | truncated
  /-- The first byte is no operation's code. -/
  | unknownOperation
  /-- The word has a bit outside its format's width. -/
  | wordTooWide
  /-- A fixed bit of the row's pattern is wrong (30_encoding R61, R63). -/
  | patternMismatch
  /-- A `state` and `event` pair that cannot occur (30_encoding R77 item f). -/
  | impossiblePair
  /-- A `phase` code from 13 to 15 (30_encoding R77 item g). -/
  | unusedPhaseCode
  /-- The classification code `0b01` (30_encoding R77 item g). -/
  | unusedClassification
  /-- The extra operand byte holds a value the operation has no operand for. -/
  | strayOperand
  /-- A text token that is not two binary digits: no row of the table, and no fault either (40_symbol_codec R86: "an explicit
  result/error return"; `Sys2Proof.Machine.rejectToken`). -/
  | malformedToken
  /-- Bytes follow the operation word. -/
  | trailingBytes
deriving DecidableEq, Repr

/-! ### The decoder -/

/-- A text token, format `token` (30_encoding R66): the four contents that are "exactly two binary digits" name their row;
no other content has one (40_symbol_codec R86). -/
def tokenInstr (c0 c1 : Byte) : Except Reject Instr :=
  if c0 = 0x30#8 ∧ c1 = 0x30#8 then .ok .parseBitPair00
  else if c0 = 0x30#8 ∧ c1 = 0x31#8 then .ok .parseBitPair01
  else if c0 = 0x31#8 ∧ c1 = 0x30#8 then .ok .parseBitPair10
  else if c0 = 0x31#8 ∧ c1 = 0x31#8 then .ok .parseBitPair11
  else .error .malformedToken

/-- Format `trans5` (30_encoding R76): `state` in bits 4:3, `event` in bits 2:0; `x` is the byte `SN_BYTE` consumes. -/
def transitionOf (w : Word) (x : Byte) : Except Reject Instr :=
  let ev := eventOfCode (w.extractLsb' 0 3)
  match (w.extractLsb' 3 2).toNat, ev with
  | 0, .byte => .ok (.snByte x)
  | 0, .eos => .ok .snEos
  | 0, .ack => .ok .snAck
  | 0, .nack => .ok .snNack
  | 0, .timeout => .ok .snTimeout
  | 0, .malformed => .ok .snMalformed
  | 0, .boundOk => .error .impossiblePair
  | 0, .boundExceeded => .error .impossiblePair
  | 1, .boundOk => .ok .rtBoundOk
  | 1, .boundExceeded => .ok .rtBoundExceeded
  | 1, .ack => .ok .rtAck
  | 1, .nack => .ok .rtNack
  | 1, .timeout => .ok .rtTimeout
  | 1, .byte => .error .impossiblePair
  | 1, .eos => .error .impossiblePair
  | 1, .malformed => .error .impossiblePair
  | 2, e => .ok (.doneAny e)
  | _, e => .ok (.abortedAny e)

/-- Format `phase4` (30_encoding R74). -/
def phaseOfCode (c : Nat) : Option Phase :=
  match c with
  | 0 => some .init
  | 1 => some .fetch
  | 2 => some .symRead
  | 3 => some .symHigh
  | 4 => some .symHold
  | 5 => some .symLow
  | 6 => some .pollFirst
  | 7 => some .pollSettle
  | 8 => some .pollSecond
  | 9 => some .retryCheck
  | 10 => some .cleanRead
  | 11 => some .cleanWrite
  | 12 => some .halt
  | _ => none

/-- The width of an operation's word in bits (30_encoding R60 to R66, R74 to R76). -/
def Operation.width : Operation → Nat
  | .splitByte | .joinSymbols | .sendSymbol | .idleLines | .sampleResponse
  | .readInputRegister | .readOutputRegister | .writeOutputRegister | .configureDirection | .nextByte => 8
  | .packSymbol | .extractSymbol | .symbolOfPacket | .encode | .delay => 32
  | .parseBitPair => 16
  | .formatBitPair | .pollResponse => 2
  | .transition => 5
  | .step => 4

/-- How many values the extra operand byte may hold: an index (40_symbol_codec R83, R85), the two bits `packSymbol` shifts
out (R82), the byte `SN_BYTE` consumes (44_retry_controller R122), or nothing. -/
def Operation.extraBound : Operation → Nat
  | .extractSymbol | .symbolOfPacket => 16
  | .packSymbol => 4
  | .transition => 256
  | _ => 1

/-- The row an operation's word is, its width and extra operand already checked. Bits the spec makes a RESULT of the
operation (the checksum of `encode`, the foreign bits of `OUT`, a byte read) are not looked at (assumption 6). -/
def rowOf (op : Operation) (w : Word) (x : Byte) : Except Reject Instr :=
  match op with
  | .splitByte => .ok (.splitByte (w.setWidth 8))
  | .joinSymbols => .ok (.joinSymbols (w.extractLsb' 6 2) (w.extractLsb' 4 2) (w.extractLsb' 2 2) (w.extractLsb' 0 2))
  | .packSymbol => .ok (.packSymbol ((x.setWidth 32 <<< 30) ||| (w >>> 2)) (w.extractLsb' 0 2))
  | .extractSymbol => .ok (.extractSymbol w (Fin.ofNat 16 x.toNat))
  | .symbolOfPacket => .ok (.symbolOfPacket w (Fin.ofNat 16 x.toNat))
  | .parseBitPair => tokenInstr (w.extractLsb' 8 8) (w.extractLsb' 0 8)
  | .formatBitPair =>
    match w.toNat with
    | 0 => .ok .formatBitPair0
    | 1 => .ok .formatBitPair1
    | 2 => .ok .formatBitPair2
    | _ => .ok .formatBitPair3
  | .encode =>
    if w &&& 0xFF0000FF#32 = 0x02000003#32 then .ok (.encode (w.extractLsb' 16 8)) else .error .patternMismatch
  | .sendSymbol => if w.getLsbD 3 then .ok (.sendSymbolHigh (w.extractLsb' 0 2)) else .ok .sendSymbolLow
  | .idleLines => if w &&& 0x0B#32 = 0#32 then .ok .idleLines else .error .patternMismatch
  | .sampleResponse => .ok .sampleResponse
  | .pollResponse =>
    match w.toNat with
    | 0 => .ok .pollTimeout
    | 2 => .ok .pollNack
    | 3 => .ok .pollAck
    | _ => .error .unusedClassification
  | .transition => transitionOf w x
  | .step =>
    match phaseOfCode w.toNat with
    | some p => .ok (phaseInstr p)
    | none => .error .unusedPhaseCode
  | .readInputRegister => .ok .readInputRegister
  | .readOutputRegister => .ok .readOutputRegister
  | .writeOutputRegister => .ok (.writeOutputRegister (w.setWidth 8))
  | .configureDirection => .ok (.configureDirection (w.setWidth 8))
  | .delay => .ok (.delay w.toNat)
  | .nextByte => .ok .nextByte

/-- One operation with its word and extra operand: total, every rejection by name. Only `SN_BYTE` among the transitions
has an extra operand. -/
def decodeOperation (op : Operation) (w : Word) (x : Byte) : Except Reject Instr :=
  if 2 ^ op.width ≤ w.toNat then .error .wordTooWide
  else if op.extraBound ≤ x.toNat then .error .strayOperand
  else if op = .transition ∧ w ≠ 0#32 ∧ x ≠ 0#8 then .error .strayOperand
  else rowOf op w x

/-- Decode one operation word from the front of any bytes, answering the instruction and the bytes after it. -/
def decode : List Byte → Except Reject (Instr × List Byte)
  | c :: b3 :: b2 :: b1 :: b0 :: x :: rest =>
    match operationOfCode c with
    | none => .error .unknownOperation
    | some op =>
      match decodeOperation op (b3 ++ b2 ++ b1 ++ b0) x with
      | .ok i => .ok (i, rest)
      | .error e => .error e
  | _ => .error .truncated

/-! ### The encoder -/

/-- The word and the extra operand byte of an instruction, from the same formats; bits that belong to a result are 0. -/
def Instr.parts : Instr → Operation × Word × Byte
  | .splitByte b => (.splitByte, b.setWidth 32, 0#8)
  | .joinSymbols s0 s1 s2 s3 => (.joinSymbols, (s0 ++ s1 ++ s2 ++ s3 : BitVec 8).setWidth 32, 0#8)
  | .packSymbol p t => (.packSymbol, (p <<< 2) ||| t.setWidth 32, (p >>> 30).setWidth 8)
  | .extractSymbol p index => (.extractSymbol, p, BitVec.ofNat 8 index.val)
  | .symbolOfPacket w index => (.symbolOfPacket, w, BitVec.ofNat 8 index.val)
  | .parseBitPair00 => (.parseBitPair, 0x3030#32, 0#8)
  | .parseBitPair01 => (.parseBitPair, 0x3031#32, 0#8)
  | .parseBitPair10 => (.parseBitPair, 0x3130#32, 0#8)
  | .parseBitPair11 => (.parseBitPair, 0x3131#32, 0#8)
  | .formatBitPair0 => (.formatBitPair, 0b00#32, 0#8)
  | .formatBitPair1 => (.formatBitPair, 0b01#32, 0#8)
  | .formatBitPair2 => (.formatBitPair, 0b10#32, 0#8)
  | .formatBitPair3 => (.formatBitPair, 0b11#32, 0#8)
  | .encode b => (.encode, startByte ++ b ++ 0x00#8 ++ endByte, 0#8)
  | .sendSymbolHigh t => (.sendSymbol, (1#1 ++ 0#1 ++ t : BitVec 4).setWidth 32, 0#8)
  | .sendSymbolLow => (.sendSymbol, 0#32, 0#8)
  | .idleLines => (.idleLines, 0#32, 0#8)
  | .sampleResponse => (.sampleResponse, 0#32, 0#8)
  | .pollTimeout => (.pollResponse, Classification.timeout.code.setWidth 32, 0#8)
  | .pollNack => (.pollResponse, Classification.nack.code.setWidth 32, 0#8)
  | .pollAck => (.pollResponse, Classification.ack.code.setWidth 32, 0#8)
  | .snByte b => (.transition, 0b00000#32, b)
  | .snEos => (.transition, 0b00001#32, 0#8)
  | .snAck => (.transition, 0b00010#32, 0#8)
  | .snNack => (.transition, 0b00011#32, 0#8)
  | .snTimeout => (.transition, 0b00100#32, 0#8)
  | .snMalformed => (.transition, 0b00111#32, 0#8)
  | .rtBoundOk => (.transition, 0b01101#32, 0#8)
  | .rtBoundExceeded => (.transition, 0b01110#32, 0#8)
  | .rtAck => (.transition, 0b01010#32, 0#8)
  | .rtNack => (.transition, 0b01011#32, 0#8)
  | .rtTimeout => (.transition, 0b01100#32, 0#8)
  | .doneAny e => (.transition, (CtrlState.done.code ++ e.code : BitVec 5).setWidth 32, 0#8)
  | .abortedAny e => (.transition, (CtrlState.aborted.code ++ e.code : BitVec 5).setWidth 32, 0#8)
  | .stepInit => (.step, Phase.init.code.setWidth 32, 0#8)
  | .stepFetch => (.step, Phase.fetch.code.setWidth 32, 0#8)
  | .stepSymRead => (.step, Phase.symRead.code.setWidth 32, 0#8)
  | .stepSymHigh => (.step, Phase.symHigh.code.setWidth 32, 0#8)
  | .stepSymHold => (.step, Phase.symHold.code.setWidth 32, 0#8)
  | .stepSymLow => (.step, Phase.symLow.code.setWidth 32, 0#8)
  | .stepPollFirst => (.step, Phase.pollFirst.code.setWidth 32, 0#8)
  | .stepPollSettle => (.step, Phase.pollSettle.code.setWidth 32, 0#8)
  | .stepPollSecond => (.step, Phase.pollSecond.code.setWidth 32, 0#8)
  | .stepRetryCheck => (.step, Phase.retryCheck.code.setWidth 32, 0#8)
  | .stepCleanRead => (.step, Phase.cleanRead.code.setWidth 32, 0#8)
  | .stepCleanWrite => (.step, Phase.cleanWrite.code.setWidth 32, 0#8)
  | .stepHalt => (.step, Phase.halt.code.setWidth 32, 0#8)
  | .readInputRegister => (.readInputRegister, 0#32, 0#8)
  | .readOutputRegister => (.readOutputRegister, 0#32, 0#8)
  | .writeOutputRegister v => (.writeOutputRegister, v.setWidth 32, 0#8)
  | .configureDirection m => (.configureDirection, m.setWidth 32, 0#8)
  | .delay n => (.delay, BitVec.ofNat 32 n, 0#8)
  | .nextByte => (.nextByte, 0#32, 0#8)

/-- The four bytes of a word, first sent first (20_memory R45). -/
def wordBytes (w : Word) : List Byte :=
  [w.extractLsb' 24 8, w.extractLsb' 16 8, w.extractLsb' 8 8, w.extractLsb' 0 8]

/-- The six bytes of an operation word. -/
def operationBytes (op : Operation) (w : Word) (x : Byte) : List Byte :=
  op.code :: (wordBytes w ++ [x])

/-- The operation word of an instruction. -/
def encode (i : Instr) : List Byte :=
  operationBytes i.parts.1 i.parts.2.1 i.parts.2.2

/-! ### The host's bare table word -/

/-- Which operation a bare word of the table is read as, when nothing names one (assumption 8: the rows overlap, and no bit
of a word tells them apart). Bytes: the two clock patterns of format `out8` with all other bits clear, then the codes of the
phase machine and of the transition table, then `out8`. -/
def bareOperation (nbits w : Nat) : Option Operation :=
  if 2 ^ nbits ≤ w then none
  else if nbits = 8 then
    if w = 0 then some .idleLines
    else if w = 8 ∨ w = 15 then some .sendSymbol
    else if w < 13 then some .step
    else if w < 32 then some .transition
    else if w % 16 = 0 ∨ w % 16 = 4 then some .idleLines
    else some .sendSymbol
  else if nbits = 16 then some .parseBitPair
  else if nbits = 32 then
    if BitVec.ofNat 32 w &&& 0xFF0000FF#32 = 0x02000003#32 then some .encode else some .packSymbol
  else none

/-- The operation word a bare table word is laid out as; its extra operand is 0. -/
def tableBytes (nbits w : Nat) : Option (List Byte) :=
  (bareOperation nbits w).map fun op => operationBytes op (BitVec.ofNat 32 w) 0#8

/-- The instruction the decoder reads from a bare table word. -/
def decodeTableWord (nbits w : Nat) : Option Instr :=
  match tableBytes nbits w with
  | none => none
  | some bytes =>
    match decode bytes with
    | .ok (i, _) => some i
    | .error _ => none

end Sys2Proof
end

