-- ==== Sys2Proof/Machine/State.lean ====
section
/-! DEFINITION. The state of one instance of the block and of what it touches: the nine registers of 10_state R20, the
external port and byte source of 10_state R32, the trace of 00_scope R12, the configuration (00_scope R8, R9), and three
fields of this model's own (`answer`, `requests` and the read counters), said so at each. -/

namespace Sys2Proof.Machine

/-- One external transaction with the value it carried (00_scope R12). -/
inductive Transaction where
  /-- `CFG(m)` -/
  | cfg (m : Byte)
  /-- `NB()→b`, or `NB()→EOS` for `none` -/
  | nb (answer : Option Byte)
  /-- `RO()→v` -/
  | ro (v : Byte)
  /-- `WO(v)` -/
  | wo (v : Byte)
  /-- `DLY(n)` -/
  | dly (n : Nat)
  /-- `RI()→v` -/
  | ri (v : Byte)
deriving DecidableEq, Repr

/-- The value an operation returns to its caller: transient in the spec (10_state R30, R31), kept here until the next
operation that returns one (assumption 9). -/
inductive Answer where
  | none
  | byte (b : Byte)
  | symbol (t : Symbol)
  | symbols (s0 s1 s2 s3 : Symbol)
  | word (w : Word)
  /-- The two characters of one text line (40_symbol_codec R87). -/
  | text (c0 c1 : Byte)
  /-- The level of the response line in one sample. -/
  | level (high : Bool)
  | classification (c : Classification)
  | endOfStream
  /-- `MalformedSymbolInput`, the error return of `parseBitPair` (40_symbol_codec R86). -/
  | malformed
deriving DecidableEq, Repr

/-- What the outside asks of the block beside letting it run (assumption 5): an operation word, a line of the optional text
pipe (40_symbol_codec R86), or reset / session restart (45_port_primitives R156). -/
inductive Request where
  | operation (bytes : List Byte)
  | line (text : List Byte)
  | restart
deriving DecidableEq, Repr

/-- The whole state. -/
structure State where
  /-- The parameters of this instance (00_scope R8, R9); no step writes it. -/
  cfg : Config
  /-- `checksum` (10_state R21). -/
  checksum : Byte
  /-- `package` (10_state R23). -/
  package : Word
  /-- `symbolsSent`, 0 to 16: larger values cannot be written down (10_state R24, 30_encoding R77 item g). -/
  symbolsSent : Fin 17
  /-- `retryCount`, 0 to `MAX_RETRY` + 1 (10_state R20, R25). -/
  retryCount : Nat
  /-- Larger values cannot be written down (30_encoding R77 item g, 93_implementation_defined U15; assumption 19). -/
  retryBounded : retryCount ≤ cfg.maxRetry + 1
  /-- `state` (10_state R26). -/
  state : CtrlState
  /-- `packet` (10_state R22). -/
  packet : Word
  /-- `cause` (10_state R27). -/
  cause : Cause
  /-- `phase` (10_state R28). -/
  phase : Phase
  /-- `outHold` (10_state R29). -/
  outHold : Byte
  /-- `OUT`, the port's output register (20_memory R40). -/
  out : Byte
  /-- `DIR`, the port's direction setting (20_memory R42). -/
  dir : Byte
  /-- `IN`, the port's input register (20_memory R41): what its next reads will answer; past its end the answers are free. -/
  inAnswers : List Byte
  /-- Model's own: how many reads of `IN` were made, the index of the next free answer. -/
  inReads : Nat
  /-- The byte source (20_memory R44): the bytes not yet taken. -/
  source : List Byte
  /-- Whether the source goes on past `source` for ever (93_implementation_defined U24). -/
  endless : Bool
  /-- The position in the input byte stream (10_state R32): how many bytes were taken. -/
  taken : Nat
  /-- The trace of this session (00_scope R12), newest transaction first. -/
  trace : List Transaction
  /-- Model's own: the value the last operation returned. -/
  answer : Answer
  /-- Model's own: what the outside asks for, oldest first; a session by itself has none. -/
  requests : List Request
deriving DecidableEq, Repr

/-- Why the machine stops with a fault. The spec has no fault of the block: "a port transaction always succeeds in the
model" (00_scope R5), and its error conditions are states (60_exceptions R168). -/
inductive Fault where
  /-- Raised by a step whose pending request is no operation word (30_encoding R77: refused by name). Safe: the machine
  stops where the spec has nothing to run. -/
  | notAnOperation (why : Reject)
deriving DecidableEq, Repr

/-- Why an instruction has no meaning in a state. -/
inductive Refusal where
  /-- Raised by `exec` for an instruction that has no meaning yet. Safe. -/
  | notModelled (mnemonic : String)
  /-- Raised by a step of the phase machine where the spec does not enable it: another phase, or its "requires" clause
  fails, or the state is terminal (44_retry_controller R131, R134 to R146). Safe: no run reaches such a state. -/
  | stepNotEnabled (p : Phase)
  /-- Raised by a transition outside a terminal state, where its row is not of that state or its event cannot occur
  (30_encoding R77 item f: "it must not give them a next state"; 93_implementation_defined U14: "never a guessed next
  state"; assumption 15). Safe. -/
  | eventCannotOccur (st : CtrlState) (ev : Event)
deriving DecidableEq, Repr

/-- A stimulus loaded from outside on a block just reset (30_encoding R79): the content of `OUT`, the byte stream, and what
the reads of `IN` answer. Registers: 10_state R34. -/
def State.load (cfg : Config) (outInit : Byte) (source : List Byte) (endless : Bool) (inAnswers : List Byte) : State :=
  { cfg := cfg, checksum := checksumInit, package := 0#32, symbolsSent := 0, retryCount := 0,
    retryBounded := Nat.zero_le _, state := .sendingNew,
    packet := 0#32, cause := .none, phase := .init, outHold := 0#8, out := outInit, dir := 0#8, inAnswers := inAnswers,
    inReads := 0, source := source, endless := endless, taken := 0, trace := [], answer := .none, requests := [] }

/-- The machine right after reset (10_state R34), with the reference configuration and no stimulus loaded. `OUT` and `DIR`
have no value in the spec: 0 here, DESIGN CHOICE (assumption 1). -/
def State.reset : State := State.load Config.reference 0#8 [] false []

end Sys2Proof.Machine
end

