-- ==== Sys2Proof/Machine/Operands.lean ====
section
/-! DEFINITION. The operand forms: how a symbol is taken from a byte, a word or a text token and put into the package or
the output byte (30_encoding R67, 40_symbol_codec R80 to R87), the three masks (00_scope R8) and the packet (30_encoding
R61). All pure, all unsigned. -/

namespace Sys2Proof.Machine

/-- `splitByte`, result `j`: `s_j = (b >> (6 - 2*j)) & 0b11` (40_symbol_codec R80). -/
def symbolOfByte (b : Byte) (j : Nat) : Symbol :=
  (b >>> (6 - 2 * j)).setWidth 2

/-- `joinSymbols` (40_symbol_codec R81): concatenation, the first symbol most significant. -/
def joinSymbols (s0 s1 s2 s3 : Symbol) : Byte :=
  s0 ++ s1 ++ s2 ++ s3

/-- `packSymbol` (40_symbol_codec R82): shift left by 2, the top pair falls off, the symbol enters at the bottom. -/
def packSymbol (p : Word) (t : Symbol) : Word :=
  (p <<< 2) ||| t.setWidth 32

/-- `extractSymbol` (40_symbol_codec R83): `(p >> (30 - 2*index)) & 0b11`; an index past 15 cannot be written down. -/
def extractSymbol (p : Word) (index : Fin 16) : Symbol :=
  (p >>> (30 - 2 * index.val)).setWidth 2

/-- Byte `j` of a packet, the first sent (byte 0) most significant (20_memory R45). -/
def byteOfPacket (w : Word) (j : Nat) : Byte :=
  (w >>> (24 - 8 * j)).setWidth 8

/-- `symbolOfPacket` (40_symbol_codec R85): result `index mod 4` of `splitByte` of byte `index div 4`. -/
def symbolOfPacket (w : Word) (index : Fin 16) : Symbol :=
  symbolOfByte (byteOfPacket w (index.val / 4)) (index.val % 4)

/-- The digit an ASCII character stands for, if it is `'0'` or `'1'` (30_encoding R66). -/
def digitOf (c : Byte) : Option (BitVec 1) :=
  if c = 0x30#8 then some 0#1 else if c = 0x31#8 then some 1#1 else none

/-- The character of a digit (40_symbol_codec R87). -/
def digitChar (d : BitVec 1) : Byte :=
  0x30#8 ||| d.setWidth 8

/-- `parseBitPair` (40_symbol_codec R86): `none` is `MalformedSymbolInput`. -/
def parseBitPair : List Byte → Option Symbol
  | [c0, c1] =>
    match digitOf c0, digitOf c1 with
    | some d0, some d1 => some (d0 ++ d1)
    | _, _ => none
  | _ => none

/-- `formatBitPair` (40_symbol_codec R87). -/
def formatBitPair (t : Symbol) : Byte × Byte :=
  (digitChar (t.extractLsb' 1 1), digitChar (t.extractLsb' 0 1))

/-- The packet `START, payload, checksum, END` as one word (30_encoding R61). -/
def packetOf (payload checksum : Byte) : Word :=
  startByte ++ payload ++ checksum ++ endByte

/-- `DATA_MASK` (00_scope R8): two adjacent bits. -/
def dataMask (c : Config) : Byte :=
  0b11#8 <<< c.pins.dataLow.val

/-- `CLOCK_MASK` (00_scope R8). -/
def clockMask (c : Config) : Byte :=
  1#8 <<< c.pins.clockBit.val

/-- `RESPONSE_MASK` (00_scope R8). -/
def responseMask (c : Config) : Byte :=
  1#8 <<< c.pins.responseBit.val

/-- `DATA_MASK | CLOCK_MASK`: the only bits of `OUT` the block may change (20_memory R40). -/
def drivenMask (c : Config) : Byte :=
  dataMask c ||| clockMask c

/-- A symbol's two bits at the position of `DATA_MASK`, bit 1 on the higher pin (20_memory R47, decision D5). -/
def placeSymbol (c : Config) (t : Symbol) : Byte :=
  t.setWidth 8 <<< c.pins.dataLow.val

/-- The first byte `sendSymbol` writes (42_link_transmitter R100): data bits and clock bit cleared, the symbol ORed in,
the clock high. -/
def strobeHigh (c : Config) (v : Byte) (t : Symbol) : Byte :=
  (v &&& ~~~drivenMask c) ||| placeSymbol c t ||| clockMask c

/-- The second byte `sendSymbol` writes: the clock bit cleared, the data kept (42_link_transmitter R100). -/
def strobeLow (c : Config) (held : Byte) : Byte :=
  held &&& ~~~clockMask c

/-- The byte `idleLines` writes (42_link_transmitter R102). -/
def idleByte (c : Config) (v : Byte) : Byte :=
  v &&& ~~~drivenMask c

/-- `symbolsSent` plus 1; applied only to 0 to 15 (10_state R24), it leaves 16 as it is. -/
def countUp (n : Fin 17) : Fin 17 :=
  if h : n.val < 16 then ⟨n.val + 1, by omega⟩ else n

/-- While `symbolsSent` is below 16 it is the index of the next symbol to send (10_state R24). -/
def dueIndex (n : Fin 17) : Fin 16 :=
  Fin.ofNat 16 n.val

end Sys2Proof.Machine
end

