-- ==== Sys2Proof/Machine/Flags.lean ====
section
/-! DEFINITION. The block's flags (00_scope's mapping: "the response classification, `cause`, and the terminal states"):
how a sample is read, how a poll is classified, when the retry bound is exceeded, and which step or event the sequencing
state `state`, `phase`, `symbolsSent` allows. -/

namespace Sys2Proof.Machine

/-- The response line is high in a byte read from `IN`: only the response bit counts (20_memory R41, 30_encoding R64). -/
def responseHigh (c : Config) (v : Byte) : Bool :=
  v &&& responseMask c != 0#8

/-- Classification by the second sample, the first having been high (43_response_monitor R111). -/
def classifySecond (high : Bool) : Classification :=
  if high then .ack else .nack

/-- `DONE` and `ABORTED` are terminal (10_state R26). -/
def terminal (st : CtrlState) : Bool :=
  match st with
  | .done => true
  | .aborted => true
  | .sendingNew => false
  | .retransmitting => false

/-- The retry check, on the value after the increment (44_retry_controller R126). -/
def boundExceeded (c : Config) (retryCount : Nat) : Bool :=
  decide (retryCount > c.maxRetry)

/-- The "requires" clauses of the steps (44_retry_controller R135 to R146), with rule R131: in a terminal state nothing but
the cleanup is performed, and the cleanup is performed nowhere else. DEDUCED (assumption 27): `SYM_HIGH`, `SYM_HOLD` and `SYM_LOW`
keep the clause of `SYM_READ`, and `POLL_SETTLE` and `POLL_SECOND` that of `POLL_FIRST`, though R138 to R140, R142 and R143 write
none. -/
def phaseAllows (p : Phase) (s : State) : Bool :=
  match p with
  | .init => decide (s.state = .sendingNew)
  | .fetch => decide (s.state = .sendingNew ∧ s.symbolsSent = 0)
  | .symRead => !terminal s.state && decide (s.symbolsSent.val < 16)
  | .symHigh => !terminal s.state && decide (s.symbolsSent.val < 16)
  | .symHold => !terminal s.state && decide (s.symbolsSent.val < 16)
  | .symLow => !terminal s.state && decide (s.symbolsSent.val < 16)
  | .pollFirst => !terminal s.state && decide (s.symbolsSent.val = 16)
  | .pollSettle => !terminal s.state && decide (s.symbolsSent.val = 16)
  | .pollSecond => !terminal s.state && decide (s.symbolsSent.val = 16)
  | .retryCheck => decide (s.state = .retransmitting)
  | .cleanRead => terminal s.state
  | .cleanWrite => terminal s.state
  | .halt => true

/-- The step of phase `p` is enabled: the machine is in that phase and the step's requirement holds. -/
def stepEnabled (p : Phase) (s : State) : Bool :=
  decide (s.phase = p) && phaseAllows p s

/-- Where a text token is due (60_exceptions R161: "before the `sendSymbol` it would have fed"; R167: "at a token boundary,
never at a poll"): a byte or the next symbol of a group is about to be sent (assumption 15). -/
def tokenDue (s : State) : Bool :=
  decide (s.symbolsSent.val < 16 ∧ (s.phase = .fetch ∨ s.phase = .symRead))

/-- The event of a transition can occur (30_encoding R72, "produced by", and R77 item f): a byte or the end of the stream
where a byte is fetched, a classification where a complete group is polled (43_response_monitor R114), the bound where it
is checked, and a malformed token where a token is due, even inside a group (90_conflicts C12; assumption 15). -/
def eventOccurs (ev : Event) (s : State) : Bool :=
  match ev with
  | .byte => decide (s.phase = .fetch ∧ s.symbolsSent = 0)
  | .eos => decide (s.phase = .fetch ∧ s.symbolsSent = 0)
  | .ack => decide (s.symbolsSent.val = 16)
  | .nack => decide (s.symbolsSent.val = 16)
  | .timeout => decide (s.symbolsSent.val = 16)
  | .boundOk => decide (s.phase = .retryCheck ∧ s.symbolsSent = 0) && !boundExceeded s.cfg (s.retryCount + 1)
  | .boundExceeded => decide (s.phase = .retryCheck ∧ s.symbolsSent = 0) && boundExceeded s.cfg (s.retryCount + 1)
  | .malformed => tokenDue s

end Sys2Proof.Machine
end

