-- ==== Sys2Proof/Machine/Ops.lean ====
section
/-! DEFINITION. The operations every meaning is built from: the transactions of 45_port_primitives, the encoder's one
operation, the pieces of `sendSymbol` and of the phase machine, one whole group, one whole poll, the abort (this
hardware's exception entry, 60_exceptions R168) and the session restart (its only way back, 60_exceptions R169). -/

namespace Sys2Proof.Machine

/-! ### Transactions (45_port_primitives R150 to R155) -/

/-- Record one transaction (00_scope R12). -/
def emit (e : Transaction) (s : State) : State :=
  { s with trace := e :: s.trace }

/-- `readInputRegister` (R150): the level of the lines at this moment, the environment's choice at each read. -/
def readIn (s : State) : Byte × State :=
  match s.inAnswers with
  | v :: rest => (v, emit (.ri v) { s with inAnswers := rest, inReads := s.inReads + 1 })
  | [] => (Config.freeInput s.inReads, emit (.ri (Config.freeInput s.inReads)) { s with inReads := s.inReads + 1 })

/-- `readOutputRegister` (R151): the register's content. -/
def readOut (s : State) : Byte × State :=
  (s.out, emit (.ro s.out) s)

/-- `writeOutputRegister` (R152): the whole register at once. -/
def writeOut (v : Byte) (s : State) : State :=
  emit (.wo v) { s with out := v }

/-- `configureDirection` (R153). -/
def configureDir (m : Byte) (s : State) : State :=
  emit (.cfg m) { s with dir := m }

/-- `delay` (R154): an event of the trace and nothing else. -/
def delayFor (n : Nat) (s : State) : State :=
  emit (.dly n) s

/-- `nextByte` (R155): the next byte of the stream, or end of stream (`none`). -/
def takeByte (s : State) : Option Byte × State :=
  match s.source with
  | b :: rest => (some b, emit (.nb (some b)) { s with source := rest, taken := s.taken + 1 })
  | [] =>
    if s.endless then
      (some (Config.freeStream s.taken), emit (.nb (some (Config.freeStream s.taken))) { s with taken := s.taken + 1 })
    else (none, emit (.nb none) s)

/-- Answer a value to the caller of an operation. -/
def answerWith (a : Answer) (s : State) : State :=
  { s with answer := a }

/-! ### FrameEncoder (41_frame_encoder R90) -/

/-- `encode`: the checksum is updated first and the packet carries the updated value. -/
def encodeByte (b : Byte) (s : State) : Word × State :=
  let sum := s.checksum + b
  (packetOf b sum, { s with checksum := sum })

/-! ### LinkTransmitter (42_link_transmitter R100, R102) -/

/-- The read of `sendSymbol`: `outHold` gets the byte with the symbol on the data bits and the clock high. -/
def loadStrobe (t : Symbol) (s : State) : State :=
  let r := readOut s
  { r.2 with outHold := strobeHigh s.cfg r.1 t }

/-- The second write of `sendSymbol`: the held byte with the clock low; `OUT` is not read again (decision D12). -/
def dropStrobe (s : State) : State :=
  let v := strobeLow s.cfg s.outHold
  writeOut v { s with outHold := v }

/-- The read of `idleLines`. -/
def loadIdle (s : State) : State :=
  let r := readOut s
  { r.2 with outHold := idleByte s.cfg r.1 }

/-- `idleLines` (R102): a read and a write, with no delay. -/
def idle (s : State) : State :=
  let s1 := loadIdle s
  writeOut s1.outHold s1

/-! ### ResponseMonitor (43_response_monitor R110) -/

/-- `pollResponse`: one sample if the line is low, else a delay and a second sample. -/
def pollResponse (s : State) : Classification × State :=
  let r1 := readIn s
  if responseHigh s.cfg r1.1 then
    let r2 := readIn (delayFor s.cfg.responseSettle r1.2)
    (classifySecond (responseHigh s.cfg r2.1), r2.2)
  else (.timeout, r1.2)

/-- The peer puts samples on the response line: the next reads of `IN` answer a byte whose response bit is the sample and
whose other bits are 0, the notation `H` and `L` of 30_encoding R79. -/
def presentSamples (samples : List Bool) (s : State) : State :=
  { s with inAnswers := samples.map (fun h => if h then responseMask s.cfg else 0#8) ++ s.inAnswers }

/-! ### Abort, clean end, restart (60_exceptions R168, R169; 45_port_primitives R156) -/

/-- Enter `ABORTED` (60_exceptions R168): state and cause in one step, `symbolsSent` 0, all other registers kept (decision
D9); the cleanup of the lines follows (44_retry_controller R131). -/
def takeAbort (c : Cause) (s : State) : State :=
  { s with state := .aborted, cause := c, symbolsSent := 0, phase := .cleanRead }

/-- Enter `DONE` (44_retry_controller R121): nothing else changes; the cleanup follows. -/
def endSession (s : State) : State :=
  { s with state := .done, phase := .cleanRead }

/-- Reset and session restart (45_port_primitives R156): the nine registers; `OUT`, the byte source and the port are not
touched; the trace of the new session is empty (assumption 17). -/
def sessionRestart (s : State) : State :=
  { s with checksum := checksumInit, package := 0#32, packet := 0#32, symbolsSent := 0, retryCount := 0,
           retryBounded := Nat.zero_le _, state := .sendingNew, cause := .none, outHold := 0#8, phase := .init, trace := [] }

/-! ### RetryController, what an answer does (44_retry_controller R123 to R129) -/

/-- `ACK` (R123, R127): the package register, the retry count and the symbol count go to 0, and a new byte is fetched. -/
def acknowledge (s : State) : State :=
  { s with package := 0#32, retryCount := 0, retryBounded := Nat.zero_le _, symbolsSent := 0, state := .sendingNew,
           phase := .fetch }

/-- `NACK` (R124, R128): the package is retained; the retry check follows. -/
def negative (s : State) : State :=
  { s with symbolsSent := 0, state := .retransmitting, phase := .retryCheck }

/-- What a poll's classification does. -/
def answerPoll (c : Classification) (s : State) : State :=
  match c with
  | .ack => acknowledge s
  | .nack => negative s
  | .timeout => takeAbort .linkTimeout s

/-! ### The phase machine's effects (44_retry_controller R135 to R146) -/

/-- A byte was fetched: encode it and begin its group (R136). -/
def beginPacket (b : Byte) (s : State) : State :=
  let r := encodeByte b s
  { r.2 with packet := r.1, phase := .symRead }

/-- The symbol due (R137): from `packet` in `SENDING_NEW`, from `package` in `RETRANSMITTING`. -/
def dueSymbol (s : State) : Symbol :=
  match s.state with
  | .sendingNew => symbolOfPacket s.packet (dueIndex s.symbolsSent)
  | .retransmitting => extractSymbol s.package (dueIndex s.symbolsSent)
  | .done => extractSymbol s.package (dueIndex s.symbolsSent)
  | .aborted => extractSymbol s.package (dueIndex s.symbolsSent)

/-- The package register while a symbol is read (R137): packed on the first attempt, not modified on a replay. -/
def packageAfterRead (s : State) : Word :=
  match s.state with
  | .sendingNew => packSymbol s.package (dueSymbol s)
  | .retransmitting => s.package
  | .done => s.package
  | .aborted => s.package

/-- `SYM_READ` (R137). -/
def symRead (s : State) : State :=
  { loadStrobe (dueSymbol s) s with package := packageAfterRead s, phase := .symHigh }

/-- `SYM_HIGH` (R138). -/
def symHigh (s : State) : State :=
  { writeOut s.outHold s with phase := .symHold }

/-- `SYM_HOLD` (R139). -/
def symHold (s : State) : State :=
  { delayFor s.cfg.dataSettle s with phase := .symLow }

/-- `SYM_LOW` (R140). -/
def symLow (s : State) : State :=
  let n := countUp s.symbolsSent
  { dropStrobe s with symbolsSent := n, phase := if n.val = 16 then .pollFirst else .symRead }

/-- One symbol of a group: pack (on a first attempt), send, count (R122, R126). -/
def sendOne (s : State) : State :=
  symLow (symHold (symHigh (symRead s)))

/-- The next `n` symbols of a group. -/
def sendSymbols : Nat → State → State
  | 0, s => s
  | n + 1, s => sendSymbols n (sendOne s)

/-- A whole group of sixteen symbols (R122, R126); it is never cut short (R133). -/
def sendGroup (s : State) : State :=
  sendSymbols symbolsPerPackage s

/-- `retryCount` plus 1. The retry check applies it to 0 to `MAX_RETRY`, which is all a session reaches (10_state R25); the
register's top value stays (assumption 19). -/
def countRetry (s : State) : State :=
  { s with retryCount := min (s.retryCount + 1) (s.cfg.maxRetry + 1), retryBounded := Nat.min_le_right _ _ }

/-- The retry check's increment, and the replay it begins (R144). -/
def beginReplay (s : State) : State :=
  { countRetry s with phase := .symRead }

/-- The retry check found the bound exceeded (R144): the increment is kept (decision D9). -/
def exceedBound (s : State) : State :=
  takeAbort .retryBoundExceeded (countRetry s)

/-- The cleanup of a terminal state, from wherever it stands (R131): a read and a write on entry, the write alone when the
read has been made, nothing once it is over. -/
def finishCleanup (s : State) : State :=
  match s.phase with
  | .halt => s
  | .cleanWrite => { writeOut s.outHold s with phase := .halt }
  | .init | .fetch | .symRead | .symHigh | .symHold | .symLow | .pollFirst | .pollSettle | .pollSecond
  | .retryCheck | .cleanRead => { idle s with phase := .halt }

end Sys2Proof.Machine
end

