-- ==== Sys2Proof/Machine/Codec.lean ====
section
/-! DEFINITION. The meanings of the SymbolCodec (40_symbol_codec R80 to R87): "Pure functions: no state, no I/O"; each returns
its value and leaves every register as it is. -/

namespace Sys2Proof.Machine

/-- `SPLITBYTE` (R80): four symbols, most significant pair first. -/
def execSplitByte (b : Byte) (s : State) : Host.Outcome State Fault Refusal :=
  .next (answerWith (.symbols (symbolOfByte b 0) (symbolOfByte b 1) (symbolOfByte b 2) (symbolOfByte b 3)) s)

/-- `JOINSYMBOLS` (R81). -/
def execJoinSymbols (s0 s1 s2 s3 : Symbol) (s : State) : Host.Outcome State Fault Refusal :=
  .next (answerWith (.byte (joinSymbols s0 s1 s2 s3)) s)

/-- `PACKSYMBOL` (R82): the new value of the package register is returned, no register is written. -/
def execPackSymbol (p : Word) (t : Symbol) (s : State) : Host.Outcome State Fault Refusal :=
  .next (answerWith (.word (packSymbol p t)) s)

/-- `EXTRACTSYMBOL` (R83). -/
def execExtractSymbol (p : Word) (index : Fin 16) (s : State) : Host.Outcome State Fault Refusal :=
  .next (answerWith (.symbol (extractSymbol p index)) s)

/-- `SYMBOLOFPACKET` (R85). -/
def execSymbolOfPacket (w : Word) (index : Fin 16) (s : State) : Host.Outcome State Fault Refusal :=
  .next (answerWith (.symbol (symbolOfPacket w index)) s)

/-- Parse the content of one line and return its symbol, or the error (R86: "an explicit result/error return from the
symbol-parsing boundary"). What the controller does with the error is `execSnMalformed`. -/
def parseLine (line : List Byte) (s : State) : State :=
  answerWith
    (match parseBitPair line with
     | some t => .symbol t
     | none => .malformed) s

/-- Return the two characters of a symbol's line (R87). -/
def formatLine (t : Symbol) (s : State) : Host.Outcome State Fault Refusal :=
  .next (answerWith (.text (formatBitPair t).1 (formatBitPair t).2) s)

/-- `PARSEBITPAIR_00` (R86): the line `00`. -/
def execParseBitPair00 (s : State) : Host.Outcome State Fault Refusal :=
  .next (parseLine [0x30#8, 0x30#8] s)

/-- `PARSEBITPAIR_01` (R86): the line `01`. -/
def execParseBitPair01 (s : State) : Host.Outcome State Fault Refusal :=
  .next (parseLine [0x30#8, 0x31#8] s)

/-- `PARSEBITPAIR_10` (R86): the line `10`. -/
def execParseBitPair10 (s : State) : Host.Outcome State Fault Refusal :=
  .next (parseLine [0x31#8, 0x30#8] s)

/-- `PARSEBITPAIR_11` (R86): the line `11`. -/
def execParseBitPair11 (s : State) : Host.Outcome State Fault Refusal :=
  .next (parseLine [0x31#8, 0x31#8] s)

/-- `FORMATBITPAIR_0` (R87): symbol 0. -/
def execFormatBitPair0 (s : State) : Host.Outcome State Fault Refusal :=
  formatLine 0#2 s

/-- `FORMATBITPAIR_1` (R87): symbol 1. -/
def execFormatBitPair1 (s : State) : Host.Outcome State Fault Refusal :=
  formatLine 1#2 s

/-- `FORMATBITPAIR_2` (R87): symbol 2. -/
def execFormatBitPair2 (s : State) : Host.Outcome State Fault Refusal :=
  formatLine 2#2 s

/-- `FORMATBITPAIR_3` (R87): symbol 3. -/
def execFormatBitPair3 (s : State) : Host.Outcome State Fault Refusal :=
  formatLine 3#2 s


end Sys2Proof.Machine
end

