-- ==== Sys2Proof/Machine/Frame.lean ====
section
/-! DEFINITION. The meaning of the FrameEncoder's one operation (41_frame_encoder R90). -/

namespace Sys2Proof.Machine

/-- `ENCODE` (R90): the checksum is updated and the packet carrying the updated value is returned; the register `packet` is
written by the `FETCH` step alone (10_state R22; assumption 16). DESIGN CHOICE (assumption 26): asked for from outside it runs in
every state, where the block itself calls it in `FETCH` alone (41_frame_encoder R94). -/
def execEncode (b : Byte) (s : State) : Host.Outcome State Fault Refusal :=
  .next (answerWith (.word (encodeByte b s).1) (encodeByte b s).2)


end Sys2Proof.Machine
end

