-- ==== Sys2Proof/Machine/Monitor.lean ====
section
/-! DEFINITION. The meanings of the ResponseMonitor (43_response_monitor R110, R111). A row of format `resp` IS the peer's response
(30_encoding R65), so its meaning is the poll that this response answers (assumption 10). -/

namespace Sys2Proof.Machine

/-- `SAMPLE_RESPONSE` (R110, 30_encoding R64): one read of `IN`, of which only the response bit is used. -/
def execSampleResponse (s : State) : Host.Outcome State Fault Refusal :=
  .next (answerWith (.level (responseHigh s.cfg (readIn s).1)) (readIn s).2)

/-- One poll of the response `samples` the peer puts on the line (30_encoding R65): its transactions and its
classification; no register of the controller is written (10_state R30). -/
def pollOf (samples : List Bool) (s : State) : Host.Outcome State Fault Refusal :=
  let r := pollResponse (presentSamples samples s)
  .next (answerWith (.classification r.1) r.2)

/-- `POLL_TIMEOUT` (R111): the response `0`. -/
def execPollTimeout (s : State) : Host.Outcome State Fault Refusal :=
  pollOf [false] s

/-- `POLL_NACK` (R111): the response `10`. -/
def execPollNack (s : State) : Host.Outcome State Fault Refusal :=
  pollOf [true, false] s

/-- `POLL_ACK` (R111): the response `11`. -/
def execPollAck (s : State) : Host.Outcome State Fault Refusal :=
  pollOf [true, true] s


end Sys2Proof.Machine
end

