-- ==== Sys2Proof/Machine/Ports.lean ====
section
/-! DEFINITION. The meanings of the external primitives as the block calls them (45_port_primitives R150 to R155): each always
succeeds (00_scope R5). -/

namespace Sys2Proof.Machine

/-- `READINPUTREGISTER` (R150). -/
def execReadInputRegister (s : State) : Host.Outcome State Fault Refusal :=
  .next (answerWith (.byte (readIn s).1) (readIn s).2)

/-- `READOUTPUTREGISTER` (R151). -/
def execReadOutputRegister (s : State) : Host.Outcome State Fault Refusal :=
  .next (answerWith (.byte (readOut s).1) (readOut s).2)

/-- `WRITEOUTPUTREGISTER` (R152): blind at the port; preserving foreign bits is the caller's duty. -/
def execWriteOutputRegister (v : Byte) (s : State) : Host.Outcome State Fault Refusal :=
  .next (writeOut v s)

/-- `CONFIGUREDIRECTION` (R153). -/
def execConfigureDirection (m : Byte) (s : State) : Host.Outcome State Fault Refusal :=
  .next (configureDir m s)

/-- `DELAY` (R154). -/
def execDelay (n : Nat) (s : State) : Host.Outcome State Fault Refusal :=
  .next (delayFor n s)

/-- `NEXTBYTE` (R155). -/
def execNextByte (s : State) : Host.Outcome State Fault Refusal :=
  .next
    (match takeByte s with
     | (some b, s1) => answerWith (.byte b) s1
     | (none, s1) => answerWith .endOfStream s1)


end Sys2Proof.Machine
end

