-- ==== Sys2Proof/Machine/Steps.lean ====
section
/-! DEFINITION. The meanings of the thirteen steps of the phase machine (44_retry_controller R134 to R147, Part 2). -/

namespace Sys2Proof.Machine

/-- A step is performed where it is enabled (44_retry_controller R134). -/
def performStep (p : Phase) (s t : State) : Host.Outcome State Fault Refusal :=
  if stepEnabled p s = true then .next t else .refused (.stepNotEnabled p)

/-- `INIT` (R135): set the port's direction. -/
def execStepInit (s : State) : Host.Outcome State Fault Refusal :=
  performStep .init s { configureDir s.cfg.dirMask s with phase := .fetch }

/-- `FETCH` (R136): ask for a byte; encode it, or end the session. -/
def execStepFetch (s : State) : Host.Outcome State Fault Refusal :=
  performStep .fetch s
    (match takeByte s with
     | (some b, s1) => beginPacket b s1
     | (none, s1) => endSession s1)

/-- `SYM_READ` (R137). -/
def execStepSymRead (s : State) : Host.Outcome State Fault Refusal :=
  performStep .symRead s (symRead s)

/-- `SYM_HIGH` (R138). -/
def execStepSymHigh (s : State) : Host.Outcome State Fault Refusal :=
  performStep .symHigh s (symHigh s)

/-- `SYM_HOLD` (R139). -/
def execStepSymHold (s : State) : Host.Outcome State Fault Refusal :=
  performStep .symHold s (symHold s)

/-- `SYM_LOW` (R140). -/
def execStepSymLow (s : State) : Host.Outcome State Fault Refusal :=
  performStep .symLow s (symLow s)

/-- `POLL_FIRST` (R141): a low first sample is a timeout at once. -/
def execStepPollFirst (s : State) : Host.Outcome State Fault Refusal :=
  performStep .pollFirst s
    (if responseHigh s.cfg (readIn s).1 then { (readIn s).2 with phase := .pollSettle }
     else answerPoll .timeout (readIn s).2)

/-- `POLL_SETTLE` (R142). -/
def execStepPollSettle (s : State) : Host.Outcome State Fault Refusal :=
  performStep .pollSettle s { delayFor s.cfg.responseSettle s with phase := .pollSecond }

/-- `POLL_SECOND` (R143). -/
def execStepPollSecond (s : State) : Host.Outcome State Fault Refusal :=
  performStep .pollSecond s (answerPoll (classifySecond (responseHigh s.cfg (readIn s).1)) (readIn s).2)

/-- `RETRY_CHECK` (R144): the machine's only internal step. -/
def execStepRetryCheck (s : State) : Host.Outcome State Fault Refusal :=
  performStep .retryCheck s
    (if boundExceeded s.cfg (s.retryCount + 1) then exceedBound s else beginReplay s)

/-- `CLEAN_READ` (R145). -/
def execStepCleanRead (s : State) : Host.Outcome State Fault Refusal :=
  performStep .cleanRead s { loadIdle s with phase := .cleanWrite }

/-- `CLEAN_WRITE` (R146). -/
def execStepCleanWrite (s : State) : Host.Outcome State Fault Refusal :=
  performStep .cleanWrite s { writeOut s.outHold s with phase := .halt }

/-- `HALT` (R147): no step is enabled and nothing changes until reset (10_state R28: absorbing; assumption 12). -/
def execStepHalt (s : State) : Host.Outcome State Fault Refusal :=
  performStep .halt s s


end Sys2Proof.Machine
end

