-- ==== Sys2Proof/Machine/Transitions.lean ====
section
/-! DEFINITION. The meanings of the thirteen transitions of the RetryController (30_encoding R76; 44_retry_controller R121 to
R131, Part 1; 60_exceptions R161). A transition that sends a group ends where the poll is due (95_test_vectors V-K2,
assumption 11); each also sets `phase`, which Part 2 adds (assumption 18). In a terminal state every one of them is absorbed
(R131; 95_test_vectors V-K12: "anything", "unchanged"). -/

namespace Sys2Proof.Machine

/-- What is left to do once no transition applies: a terminal state absorbs every event, which is not consumed, and cleans
the lines up once (44_retry_controller R131); elsewhere the spec gives no next state (30_encoding R77 item f,
93_implementation_defined U14; assumption 15). -/
def absorb (ev : Event) (s : State) : Host.Outcome State Fault Refusal :=
  if terminal s.state = true then .next (finishCleanup s) else .refused (.eventCannotOccur s.state ev)

/-- A transition takes place in its own `from` state, where its event is produced (30_encoding R72, R76). -/
def transit (st : CtrlState) (ev : Event) (s t : State) : Host.Outcome State Fault Refusal :=
  if s.state = st ∧ eventOccurs ev s = true then .next t else absorb ev s

/-- `SN_BYTE` (44_retry_controller R122): encode the byte and send its sixteen symbols; the poll comes next. -/
def execSnByte (b : Byte) (s : State) : Host.Outcome State Fault Refusal :=
  transit .sendingNew .byte s (sendGroup (beginPacket b s))

/-- `SN_EOS` (44_retry_controller R121). -/
def execSnEos (s : State) : Host.Outcome State Fault Refusal :=
  transit .sendingNew .eos s (endSession s)

/-- `SN_ACK` (44_retry_controller R123). -/
def execSnAck (s : State) : Host.Outcome State Fault Refusal :=
  transit .sendingNew .ack s (acknowledge s)

/-- `SN_NACK` (44_retry_controller R124). -/
def execSnNack (s : State) : Host.Outcome State Fault Refusal :=
  transit .sendingNew .nack s (negative s)

/-- `SN_TIMEOUT` (44_retry_controller R125). -/
def execSnTimeout (s : State) : Host.Outcome State Fault Refusal :=
  transit .sendingNew .timeout s (takeAbort .linkTimeout s)

/-- `SN_MALFORMED` (60_exceptions R161). -/
def execSnMalformed (s : State) : Host.Outcome State Fault Refusal :=
  transit .sendingNew .malformed s (takeAbort .malformedSymbolInput s)

/-- `RT_BOUND_OK` (44_retry_controller R126): count the retry and send the retained package again; the poll comes next. -/
def execRtBoundOk (s : State) : Host.Outcome State Fault Refusal :=
  transit .retransmitting .boundOk s (sendGroup (beginReplay s))

/-- `RT_BOUND_EXCEEDED` (44_retry_controller R126): nothing is sent. -/
def execRtBoundExceeded (s : State) : Host.Outcome State Fault Refusal :=
  transit .retransmitting .boundExceeded s (exceedBound s)

/-- `RT_ACK` (44_retry_controller R127). -/
def execRtAck (s : State) : Host.Outcome State Fault Refusal :=
  transit .retransmitting .ack s (acknowledge s)

/-- `RT_NACK` (44_retry_controller R128). -/
def execRtNack (s : State) : Host.Outcome State Fault Refusal :=
  transit .retransmitting .nack s (negative s)

/-- `RT_TIMEOUT` (44_retry_controller R129). -/
def execRtTimeout (s : State) : Host.Outcome State Fault Refusal :=
  transit .retransmitting .timeout s (takeAbort .linkTimeout s)

/-- `DONE_ANY` (44_retry_controller R131): whatever the event, it is not consumed; the lines are cleaned up once. -/
def execDoneAny (e : Event) (s : State) : Host.Outcome State Fault Refusal :=
  absorb e s

/-- `ABORTED_ANY` (44_retry_controller R131). -/
def execAbortedAny (e : Event) (s : State) : Host.Outcome State Fault Refusal :=
  absorb e s

end Sys2Proof.Machine
end

