-- ==== Sys2Proof/Machine/Transmitter.lean ====
section
/-! DEFINITION. The meanings of the LinkTransmitter (42_link_transmitter R100, R102). -/

namespace Sys2Proof.Machine

/-- `SENDSYMBOL_HIGH` (R100): read `OUT`, then write the symbol with the clock high. -/
def execSendSymbolHigh (t : Symbol) (s : State) : Host.Outcome State Fault Refusal :=
  .next (writeOut (loadStrobe t s).outHold (loadStrobe t s))

/-- `SENDSYMBOL_LOW` (R100): after the settle delay, write the held byte with the clock low. DESIGN CHOICE (assumption 25):
the spec has this half only inside `sendSymbol`, after `SENDSYMBOL_HIGH`. Asked for without it, the row runs all the same and
writes what `outHold` then holds (0 after reset), so bits of `OUT` outside the mask need not be kept. -/
def execSendSymbolLow (s : State) : Host.Outcome State Fault Refusal :=
  .next (dropStrobe (delayFor s.cfg.dataSettle s))

/-- `IDLELINES` (R102). -/
def execIdleLines (s : State) : Host.Outcome State Fault Refusal :=
  .next (idle s)


end Sys2Proof.Machine
end

