-- ==== Sys2Proof/Machine/Dispatch.lean ====
section
/-! DEFINITION. Which meaning each instruction has: one arm per constructor. -/

namespace Sys2Proof.Machine

def exec (i : Instr) (s : State) : Host.Outcome State Fault Refusal :=
  match i with
  -- SymbolCodec, 40_symbol_codec R80 to R87
  | .splitByte b => Sys2Proof.Machine.execSplitByte b s
  | .joinSymbols s0 s1 s2 s3 => Sys2Proof.Machine.execJoinSymbols s0 s1 s2 s3 s
  | .packSymbol p t => Sys2Proof.Machine.execPackSymbol p t s
  | .extractSymbol p index => Sys2Proof.Machine.execExtractSymbol p index s
  | .symbolOfPacket w index => Sys2Proof.Machine.execSymbolOfPacket w index s
  | .parseBitPair00 => Sys2Proof.Machine.execParseBitPair00 s
  | .parseBitPair01 => Sys2Proof.Machine.execParseBitPair01 s
  | .parseBitPair10 => Sys2Proof.Machine.execParseBitPair10 s
  | .parseBitPair11 => Sys2Proof.Machine.execParseBitPair11 s
  | .formatBitPair0 => Sys2Proof.Machine.execFormatBitPair0 s
  | .formatBitPair1 => Sys2Proof.Machine.execFormatBitPair1 s
  | .formatBitPair2 => Sys2Proof.Machine.execFormatBitPair2 s
  | .formatBitPair3 => Sys2Proof.Machine.execFormatBitPair3 s
  -- FrameEncoder, 41_frame_encoder R90
  | .encode payload => Sys2Proof.Machine.execEncode payload s
  -- LinkTransmitter, 42_link_transmitter R100, R102
  | .sendSymbolHigh t => Sys2Proof.Machine.execSendSymbolHigh t s
  | .sendSymbolLow => Sys2Proof.Machine.execSendSymbolLow s
  | .idleLines => Sys2Proof.Machine.execIdleLines s
  -- ResponseMonitor, 43_response_monitor R110
  | .sampleResponse => Sys2Proof.Machine.execSampleResponse s
  | .pollTimeout => Sys2Proof.Machine.execPollTimeout s
  | .pollNack => Sys2Proof.Machine.execPollNack s
  | .pollAck => Sys2Proof.Machine.execPollAck s
  -- RetryController, transitions, 44_retry_controller R121 to R131 and 60_exceptions R161
  | .snByte b => Sys2Proof.Machine.execSnByte b s
  | .snEos => Sys2Proof.Machine.execSnEos s
  | .snAck => Sys2Proof.Machine.execSnAck s
  | .snNack => Sys2Proof.Machine.execSnNack s
  | .snTimeout => Sys2Proof.Machine.execSnTimeout s
  | .snMalformed => Sys2Proof.Machine.execSnMalformed s
  | .rtBoundOk => Sys2Proof.Machine.execRtBoundOk s
  | .rtBoundExceeded => Sys2Proof.Machine.execRtBoundExceeded s
  | .rtAck => Sys2Proof.Machine.execRtAck s
  | .rtNack => Sys2Proof.Machine.execRtNack s
  | .rtTimeout => Sys2Proof.Machine.execRtTimeout s
  | .doneAny e => Sys2Proof.Machine.execDoneAny e s
  | .abortedAny e => Sys2Proof.Machine.execAbortedAny e s
  -- RetryController, step machine, 44_retry_controller R135 to R147
  | .stepInit => Sys2Proof.Machine.execStepInit s
  | .stepFetch => Sys2Proof.Machine.execStepFetch s
  | .stepSymRead => Sys2Proof.Machine.execStepSymRead s
  | .stepSymHigh => Sys2Proof.Machine.execStepSymHigh s
  | .stepSymHold => Sys2Proof.Machine.execStepSymHold s
  | .stepSymLow => Sys2Proof.Machine.execStepSymLow s
  | .stepPollFirst => Sys2Proof.Machine.execStepPollFirst s
  | .stepPollSettle => Sys2Proof.Machine.execStepPollSettle s
  | .stepPollSecond => Sys2Proof.Machine.execStepPollSecond s
  | .stepRetryCheck => Sys2Proof.Machine.execStepRetryCheck s
  | .stepCleanRead => Sys2Proof.Machine.execStepCleanRead s
  | .stepCleanWrite => Sys2Proof.Machine.execStepCleanWrite s
  | .stepHalt => Sys2Proof.Machine.execStepHalt s
  -- External primitives, 45_port_primitives R150 to R155
  | .readInputRegister => Sys2Proof.Machine.execReadInputRegister s
  | .readOutputRegister => Sys2Proof.Machine.execReadOutputRegister s
  | .writeOutputRegister v => Sys2Proof.Machine.execWriteOutputRegister v s
  | .configureDirection m => Sys2Proof.Machine.execConfigureDirection m s
  | .delay n => Sys2Proof.Machine.execDelay n s
  | .nextByte => Sys2Proof.Machine.execNextByte s

end Sys2Proof.Machine
end

