-- ==== Sys2Proof/Machine/Requests.lean ====
section
/-! DEFINITION. What the outside asks of the block (assumption 5): an operation word is decoded and run, a line of the text
pipe is parsed where a token is due (60_exceptions R161, R167; assumption 23), and a restart is the reset of
45_port_primitives R156. Beside it, how a bare word of the table is placed to be run next. -/

namespace Sys2Proof.Machine

/-- The controller consults the text front end here: a token is due, in `SENDING_NEW` (30_encoding R77 item f, 60_exceptions
R161, R167). -/
def tokenAwaited (s : State) : Bool :=
  decide (s.state = .sendingNew) && tokenDue s

/-- What a malformed token does where it is parsed: `parseBitPair` returns the error (40_symbol_codec R86), and where the
controller awaits a token it is `SN_MALFORMED` (60_exceptions R161). Elsewhere nothing else happens (assumption 23). -/
def rejectToken (s : State) : Host.Outcome State Fault Refusal :=
  if tokenAwaited s then exec .snMalformed (answerWith .malformed s) else .next (answerWith .malformed s)

/-- A line is read: a legal one returns its symbol. -/
def readLine (text : List Byte) (s : State) : Host.Outcome State Fault Refusal :=
  match parseBitPair text with
  | some _ => .next (parseLine text s)
  | none => rejectToken s

/-- Serve a line of the text pipe. In a terminal state nothing is parsed (60_exceptions R169): the line is dropped unread,
as an event that `DONE_ANY` or `ABORTED_ANY` absorbs (44_retry_controller R131). -/
def serveLine (text : List Byte) (s : State) : Host.Outcome State Fault Refusal :=
  match s.state with
  | .sendingNew => readLine text s
  | .retransmitting => readLine text s
  | .done => exec (.doneAny .malformed) s
  | .aborted => exec (.abortedAny .malformed) s

/-- The front end is not consulted yet: in `RETRANSMITTING`, inside a symbol, at a poll (30_encoding R77 item f,
60_exceptions R167). The line stays in the pipe. -/
def lineWaits (s : State) : Bool :=
  !terminal s.state && !tokenAwaited s

/-- Run an operation word. `parseBitPair` of a token that names no row returns the error. DESIGN CHOICE (assumption 26): an
operation of a component or of the port runs in every state, `DONE` and `ABORTED` among them. -/
def serveOperation (bytes : List Byte) (s : State) : Host.Outcome State Fault Refusal :=
  match decode bytes with
  | .ok (i, []) => exec i s
  | .ok (_, _ :: _) => .fault (.notAnOperation .trailingBytes)
  | .error .malformedToken =>
    if bytes.length = 6 then rejectToken s else .fault (.notAnOperation .trailingBytes)
  | .error e => .fault (.notAnOperation e)

/-- Serve one request. -/
def serve (r : Request) (s : State) : Host.Outcome State Fault Refusal :=
  match r with
  | .operation bytes => serveOperation bytes s
  | .line text => serveLine text s
  | .restart => .next (sessionRestart s)

/-- A request that has to wait; only a line does. -/
def requestWaits (r : Request) (s : State) : Bool :=
  match r with
  | .operation _ => false
  | .line _ => lineWaits s
  | .restart => false

/-- Attend to the request `r` in front of the others: serve it and take it away, or, while it waits, let the machine perform
the step of its phase. -/
def attend (r : Request) (rest : List Request) (s : State) : Host.Outcome State Fault Refusal :=
  if requestWaits r s then exec (phaseInstr s.phase) s else serve r { s with requests := rest }

/-- The state of phase `p`'s step: `state`, `phase` and `symbolsSent` "play the part a program counter plays" (10_state
R28), so placing a step sets them, and only as far as its requirement does not hold already. -/
def pointAtPhase (p : Phase) (s : State) : State :=
  if phaseAllows p s then { s with phase := p }
  else
    match p with
    | .init | .fetch | .symRead | .symHigh | .symHold | .symLow =>
      { s with phase := p, state := .sendingNew, symbolsSent := 0 }
    | .pollFirst | .pollSettle | .pollSecond => { s with phase := p, state := .sendingNew, symbolsSent := 16 }
    | .retryCheck => { s with phase := p, state := .retransmitting, symbolsSent := 0 }
    | .cleanRead | .cleanWrite | .halt => { s with phase := p, state := .done, symbolsSent := 0 }

/-- Where a poll's classification is awaited in state `st`. -/
def pointAtPoll (st : CtrlState) (s : State) : State :=
  { s with state := st, phase := .pollSecond, symbolsSent := 16 }

/-- Put the sequencing state where instruction `i` can run next; an instruction that runs anywhere needs nothing. -/
def pointAt (i : Instr) (s : State) : State :=
  match i with
  | .stepInit => pointAtPhase .init s
  | .stepFetch => pointAtPhase .fetch s
  | .stepSymRead => pointAtPhase .symRead s
  | .stepSymHigh => pointAtPhase .symHigh s
  | .stepSymHold => pointAtPhase .symHold s
  | .stepSymLow => pointAtPhase .symLow s
  | .stepPollFirst => pointAtPhase .pollFirst s
  | .stepPollSettle => pointAtPhase .pollSettle s
  | .stepPollSecond => pointAtPhase .pollSecond s
  | .stepRetryCheck => pointAtPhase .retryCheck s
  | .stepCleanRead => pointAtPhase .cleanRead s
  | .stepCleanWrite => pointAtPhase .cleanWrite s
  | .stepHalt => pointAtPhase .halt s
  | .snByte _ => { s with state := .sendingNew, phase := .fetch, symbolsSent := 0 }
  | .snEos => { s with state := .sendingNew, phase := .fetch, symbolsSent := 0 }
  | .snAck => pointAtPoll .sendingNew s
  | .snNack => pointAtPoll .sendingNew s
  | .snTimeout => pointAtPoll .sendingNew s
  | .snMalformed => { s with state := .sendingNew, phase := .fetch, symbolsSent := 0 }
  | .rtBoundOk =>
    { s with state := .retransmitting, phase := .retryCheck, symbolsSent := 0, retryCount := 0,
             retryBounded := Nat.zero_le _ }
  | .rtBoundExceeded =>
    { s with state := .retransmitting, phase := .retryCheck, symbolsSent := 0, retryCount := s.cfg.maxRetry,
             retryBounded := Nat.le_succ _ }
  | .rtAck => pointAtPoll .retransmitting s
  | .rtNack => pointAtPoll .retransmitting s
  | .rtTimeout => pointAtPoll .retransmitting s
  | .doneAny _ => { s with state := .done, phase := .cleanRead, symbolsSent := 0 }
  | .abortedAny _ => { s with state := .aborted, phase := .cleanRead, symbolsSent := 0 }
  | .splitByte _ | .joinSymbols _ _ _ _ | .packSymbol _ _ | .extractSymbol _ _ | .symbolOfPacket _ _
  | .parseBitPair00 | .parseBitPair01 | .parseBitPair10 | .parseBitPair11
  | .formatBitPair0 | .formatBitPair1 | .formatBitPair2 | .formatBitPair3
  | .encode _ | .sendSymbolHigh _ | .sendSymbolLow | .idleLines
  | .sampleResponse | .pollTimeout | .pollNack | .pollAck
  | .readInputRegister | .readOutputRegister | .writeOutputRegister _ | .configureDirection _ | .delay _ | .nextByte => s

/-- Place a bare table word to be run by the very next step: its operation word goes in front of the pending requests, and
the sequencing state goes where the instruction can run. Bytes that are no operation word are placed as they are. -/
def placeTableWord (s : State) (nbits w : Nat) : State :=
  let bytes := (tableBytes nbits w).getD []
  let s1 :=
    match decodeTableWord nbits w with
    | some i => pointAt i s
    | none => s
  { s1 with requests := .operation bytes :: s1.requests }

end Sys2Proof.Machine
end

