-- ==== Sys2Proof/Machine/Step.lean ====
section
/-! DEFINITION. One step: the pending request if there is one and it need not wait, else the step of the current phase
(44_retry_controller R134). A session by itself never has a request, and then the step is the spec's own. -/

namespace Sys2Proof.Machine

/-- One step of the machine. -/
def step (s : State) : Host.Outcome State Fault Refusal :=
  match s.requests with
  | [] => exec (phaseInstr s.phase) s
  | r :: rest => attend r rest s

/-- `s` with a bare table word placed where the next step takes its instruction. -/
def State.withFetchWord (s : State) (nbits w : Nat) : State :=
  placeTableWord s nbits w

end Sys2Proof.Machine
end

