-- ==== Sys2Proof/Machine/Session.lean ====
section
/-! DEFINITION. Part 1 of the controller as one procedure (44_retry_controller R130): one turn of its loop, written over
whole groups and whole polls. The phase machine refines it (R148); where the two differ, this one governs. -/

namespace Sys2Proof.Machine

/-- One turn of the loop of procedure `Session`. -/
def sessionRound (s : State) : State :=
  match s.state with
  | .sendingNew =>
    match takeByte s with
    | (none, s1) => endSession s1
    | (some b, s1) =>
      let r := pollResponse (sendGroup (beginPacket b s1))
      answerPoll r.1 r.2
  | .retransmitting =>
    if boundExceeded s.cfg (s.retryCount + 1) then exceedBound s
    else
      let r := pollResponse (sendGroup (beginReplay s))
      answerPoll r.1 r.2
  | .done => { idle s with phase := .halt }
  | .aborted => { idle s with phase := .halt }

/-- The initialisation of procedure `Session` after the registers are reset: the direction of the port is set. -/
def sessionStart (s : State) : State :=
  { configureDir s.cfg.dirMask s with phase := .fetch }

end Sys2Proof.Machine
end

