-- ==== Sys2Proof/Safety.lean ====
section
/-! DEFINITION. What counts as a safe session: the invariants of 10_state R33 as one predicate over states, and what the
trace says of a session (00_scope R12). -/

namespace Sys2Proof.Machine

/-! ### What the trace says -/

/-- The sum, modulo 256, of the bytes a session has taken (10_state R33 item b). -/
def sumOfBytes : List Transaction → Byte
  | [] => 0#8
  | .nb (some b) :: rest => sumOfBytes rest + b
  | .nb none :: rest => sumOfBytes rest
  | .cfg _ :: rest => sumOfBytes rest
  | .ro _ :: rest => sumOfBytes rest
  | .wo _ :: rest => sumOfBytes rest
  | .dly _ :: rest => sumOfBytes rest
  | .ri _ :: rest => sumOfBytes rest

/-- The last value written to `OUT` in a session, or `first` if nothing has been written (45_port_primitives R151). -/
def lastWritten (first : Byte) : List Transaction → Byte
  | [] => first
  | .wo v :: _ => v
  | .nb _ :: rest => lastWritten first rest
  | .cfg _ :: rest => lastWritten first rest
  | .ro _ :: rest => lastWritten first rest
  | .dly _ :: rest => lastWritten first rest
  | .ri _ :: rest => lastWritten first rest

/-- The four transactions of one symbol sent from `OUT = v`, newest first (42_link_transmitter R100). -/
def symbolTrace (c : Config) (v : Byte) (t : Symbol) : List Transaction :=
  [.wo (strobeLow c (strobeHigh c v t)), .dly c.dataSettle, .wo (strobeHigh c v t), .ro v]

/-- `OUT` after the first `n` symbols of a word were sent from `OUT = v`. -/
def outAfter (c : Config) (w : Word) (v : Byte) : Nat → Byte
  | 0 => v
  | n + 1 => strobeLow c (strobeHigh c (outAfter c w v n) (extractSymbol w (Fin.ofNat 16 n)))

/-- The transactions of the first `n` symbols of a word sent from `OUT = v`, newest first: `GROUP(w)` of 30_encoding R79
for `n` = 16. -/
def groupTrace (c : Config) (w : Word) (v : Byte) : Nat → List Transaction
  | 0 => []
  | n + 1 => symbolTrace c (outAfter c w v n) (extractSymbol w (Fin.ofNat 16 n)) ++ groupTrace c w v n

/-! ### The invariant of a session -/

/-- The clock line is low. -/
def ClockLow (s : State) : Prop :=
  s.out &&& clockMask s.cfg = 0#8

/-- Data and clock lines are low: the idle state (00_scope R13). -/
def LinesIdle (s : State) : Prop :=
  s.out &&& drivenMask s.cfg = 0#8

/-- A group is being sent or polled: `packet` is a packet whose checksum byte is the running checksum (R33 item b); in
`SENDING_NEW` no retry has been counted, in `RETRANSMITTING` between 1 and `MAX_RETRY` have, and `package = packet` (R33
items f, h, i). -/
def InAttempt (s : State) : Prop :=
  s.packet = packetOf (byteOfPacket s.packet 1) s.checksum ∧
  ((s.state = .sendingNew ∧ s.retryCount = 0) ∨
   (s.state = .retransmitting ∧ 1 ≤ s.retryCount ∧ s.retryCount ≤ s.cfg.maxRetry ∧ s.package = s.packet))

/-- On a first attempt the package register holds the first `k` symbols of the packet and nothing else. -/
def Packed (s : State) (k : Nat) : Prop :=
  s.state = .sendingNew → s.package = s.packet >>> (32 - 2 * k)

/-- What holds in each phase (10_state R33 items a, h, i; 44_retry_controller R134 to R147). -/
def PhaseInv (s : State) : Prop :=
  match s.phase with
  | .init => s.state = .sendingNew ∧ s.symbolsSent = 0 ∧ s.retryCount = 0 ∧ s.package = 0#32
  | .fetch => s.state = .sendingNew ∧ s.symbolsSent = 0 ∧ s.retryCount = 0 ∧ s.package = 0#32
  | .symRead =>
    InAttempt s ∧ s.symbolsSent.val < 16 ∧ Packed s s.symbolsSent.val ∧ (s.symbolsSent ≠ 0 → ClockLow s)
  | .symHigh =>
    InAttempt s ∧ s.symbolsSent.val < 16 ∧ Packed s (s.symbolsSent.val + 1) ∧
    s.outHold = strobeHigh s.cfg s.out (extractSymbol s.packet (dueIndex s.symbolsSent))
  | .symHold =>
    InAttempt s ∧ s.symbolsSent.val < 16 ∧ Packed s (s.symbolsSent.val + 1) ∧ s.out = s.outHold ∧
    s.outHold = strobeHigh s.cfg s.out (extractSymbol s.packet (dueIndex s.symbolsSent))
  | .symLow =>
    InAttempt s ∧ s.symbolsSent.val < 16 ∧ Packed s (s.symbolsSent.val + 1) ∧ s.out = s.outHold ∧
    s.outHold = strobeHigh s.cfg s.out (extractSymbol s.packet (dueIndex s.symbolsSent))
  | .pollFirst => InAttempt s ∧ s.symbolsSent.val = 16 ∧ Packed s 16 ∧ ClockLow s
  | .pollSettle => InAttempt s ∧ s.symbolsSent.val = 16 ∧ Packed s 16 ∧ ClockLow s
  | .pollSecond => InAttempt s ∧ s.symbolsSent.val = 16 ∧ Packed s 16 ∧ ClockLow s
  | .retryCheck =>
    s.state = .retransmitting ∧ s.symbolsSent = 0 ∧ s.retryCount ≤ s.cfg.maxRetry ∧ s.package = s.packet ∧
    s.packet = packetOf (byteOfPacket s.packet 1) s.checksum ∧ ClockLow s
  | .cleanRead => terminal s.state = true ∧ s.symbolsSent = 0
  | .cleanWrite => terminal s.state = true ∧ s.symbolsSent = 0 ∧ s.outHold = idleByte s.cfg s.out
  | .halt => terminal s.state = true ∧ s.symbolsSent = 0 ∧ LinesIdle s

/-- The invariant of a session the block runs by itself. -/
structure SessionInv (s : State) : Prop where
  /-- Nothing is asked from outside. -/
  quiet : s.requests = []
  /-- R33 item g. -/
  abortedIffCause : s.state = .aborted ↔ s.cause ≠ .none
  /-- A NACK is not fatal and no token is parsed in the integrated block (10_state R27). -/
  causeKind : s.cause = .none ∨ s.cause = .linkTimeout ∨ s.cause = .retryBoundExceeded
  /-- R33 item f. -/
  retryBound : s.retryCount ≤ s.cfg.maxRetry + 1
  /-- R33 item f and R25: the register holds `MAX_RETRY` + 1 exactly when the bound was exceeded. -/
  retryTop : s.retryCount = s.cfg.maxRetry + 1 ↔ s.cause = .retryBoundExceeded
  /-- R33 item b. -/
  checksumIsSum : s.checksum = sumOfBytes s.trace
  /-- R33 items a, h, i, phase by phase. -/
  place : PhaseInv s

end Sys2Proof.Machine
end

