-- ==== Sys2Proof/Certificates/Slice0/Obligations.lean ====
section
/-! DEFINITION. The statements for the provers. Rules are those of spec/; a clause that rests on a decision of this model
names its assumption. -/

open Sys2Proof Sys2Proof.Machine

/-! ### Encoding -/

/-- 30_encoding R60 to R66, R74 to R76: no operand of an instruction is lost in its operation word (the container is this
model's, assumptions 5 to 7). -/
def Obligations.DecodeAfterEncode : Prop :=
  ∀ (i : Instr) (rest : List Byte), i.wf = true → decode (encode i ++ rest) = .ok (i, rest)

/-- Words written out from the patterns of 30_encoding: `byte8` R60, `word32` R61, `out8` R63, `token` R66, `phase4` R74,
`resp` R75, `trans5` R76. The six-byte container and the operation code in its first byte are this model's (assumption 5),
and so is looking at no bit that is a result (assumption 6). -/
def Obligations.SpecWordsDecode : Prop :=
  decode [0#8, 0#8, 0#8, 0#8, 0b01000001#8, 0#8] = .ok (.splitByte 0x41#8, []) ∧
  decode [7#8, 0b00000010#8, 0x42#8, 0x83#8, 0b00000011#8, 0#8] = .ok (.encode 0x42#8, []) ∧
  decode [8#8, 0#8, 0#8, 0#8, 0b11111110#8, 0#8] = .ok (.sendSymbolHigh 2#2, []) ∧
  decode [8#8, 0#8, 0#8, 0#8, 0b11110110#8, 0#8] = .ok (.sendSymbolLow, []) ∧
  decode [9#8, 0#8, 0#8, 0#8, 0b11110100#8, 0#8] = .ok (.idleLines, []) ∧
  decode [5#8, 0#8, 0#8, 0x31#8, 0x30#8, 0#8] = .ok (.parseBitPair10, []) ∧
  decode [13#8, 0#8, 0#8, 0#8, 0b1001#8, 0#8] = .ok (.stepRetryCheck, []) ∧
  decode [11#8, 0#8, 0#8, 0#8, 0b10#8, 0#8] = .ok (.pollNack, []) ∧
  decode [12#8, 0#8, 0#8, 0#8, 0b01101#8, 0#8] = .ok (.rtBoundOk, []) ∧
  decode [12#8, 0#8, 0#8, 0#8, 0b10011#8, 0#8] = .ok (.doneAny .nack, [])

/-- 30_encoding R76, R77 item f: of the 32 words of format `trans5` exactly the five impossible pairs name no transition;
each of the 27 others names one (in this model's container, assumption 5). -/
def Obligations.OnlyImpossiblePairsRejected : Prop :=
  ∀ w : BitVec 5,
    (w ∈ [0b00101#5, 0b00110#5, 0b01000#5, 0b01001#5, 0b01111#5] →
      decode (operationBytes .transition (w.setWidth 32) 0#8) = .error .impossiblePair) ∧
    (w ∉ [0b00101#5, 0b00110#5, 0b01000#5, 0b01001#5, 0b01111#5] →
      ∃ i, decode (operationBytes .transition (w.setWidth 32) 0#8) = .ok (i, []))

/-! ### The step -/

/-- A pending operation word that decodes is run, at the state with that request taken away (assumption 5). -/
def Obligations.PendingOperationRuns : Prop :=
  ∀ (s : State) (bytes : List Byte) (rest : List Request) (i : Instr),
    s.requests = .operation bytes :: rest → decode bytes = .ok (i, []) →
      step s = exec i { s with requests := rest }

/-- 44_retry_controller R134: with nothing asked from outside, the step is the one the `phase` code (30_encoding R74)
decodes to, and `phase` alone decides which. The container that is decoded is this model's (assumption 5), and so is the case
of `HALT`, where R134 has no step enabled (assumption 12). -/
def Obligations.PhaseDecidesStep : Prop :=
  ∀ s : State, s.requests = [] →
    ∃ i, decode (operationBytes .step (s.phase.code.setWidth 32) 0#8) = .ok (i, []) ∧ step s = exec i s

/-- A bare word of the table placed with `withFetchWord` is run by the very next step, at a state that differs at most in
where it stands: in `state`, `phase` and `symbolsSent`, and in `retryCount` for the two rows of the retry check. All of this is
the model's (assumptions 8 and 13). -/
def Obligations.BareTableWordRuns : Prop :=
  ∀ (s : State) (nbits w : Nat) (i : Instr), decodeTableWord nbits w = some i →
    step (s.withFetchWord nbits w) = exec i (pointAt i s) ∧
    ∃ (st : CtrlState) (ph : Phase) (n : Fin 17) (k : Nat) (hk : k ≤ s.cfg.maxRetry + 1),
      pointAt i s = { s with state := st, phase := ph, symbolsSent := n, retryCount := k, retryBounded := hk } ∧
      (i ≠ .rtBoundOk → i ≠ .rtBoundExceeded → k = s.retryCount)

/-! ### SymbolCodec -/

/-- 40_symbol_codec R80: the four bit pairs of the byte, most significant first; nothing else changes. -/
def Obligations.SplitByteResult : Prop :=
  ∀ (b : Byte) (s : State),
    exec (.splitByte b) s =
      .next { s with answer := .symbols (b.extractLsb' 6 2) (b.extractLsb' 4 2) (b.extractLsb' 2 2) (b.extractLsb' 0 2) }

/-- 40_symbol_codec R81: `(s0 << 6) | (s1 << 4) | (s2 << 2) | s3`; nothing else changes. -/
def Obligations.JoinSymbolsResult : Prop :=
  ∀ (s0 s1 s2 s3 : Symbol) (s : State),
    exec (.joinSymbols s0 s1 s2 s3) s =
      .next { s with answer := .byte ((s0.setWidth 8 <<< 6) ||| (s1.setWidth 8 <<< 4) ||| (s2.setWidth 8 <<< 2) ||| s3.setWidth 8) }

/-- 40_symbol_codec R82: `p[29:0] ++ s[1:0]`; no register is written by the operation itself. -/
def Obligations.PackSymbolResult : Prop :=
  ∀ (p : Word) (t : Symbol) (s : State),
    exec (.packSymbol p t) s = .next { s with answer := .word (p.extractLsb' 0 30 ++ t) }

/-- 40_symbol_codec R83: `p[31 - 2*index : 30 - 2*index]`, for every index. -/
def Obligations.ExtractSymbolResult : Prop :=
  ∀ (p : Word) (index : Fin 16) (s : State),
    exec (.extractSymbol p index) s = .next { s with answer := .symbol (p.extractLsb' (30 - 2 * index.val) 2) }

/-- 40_symbol_codec R85: symbol `index mod 4` of `splitByte` of byte `index div 4` (byte 0 in bits 31:24), which is
`extractSymbol(w, index)`. -/
def Obligations.SymbolOfPacketResult : Prop :=
  ∀ (w : Word) (index : Fin 16) (s : State),
    exec (.symbolOfPacket w index) s =
      .next { s with answer := .symbol ((w.extractLsb' (24 - 8 * (index.val / 4)) 8).extractLsb' (6 - 2 * (index.val % 4)) 2) } ∧
    exec (.symbolOfPacket w index) s = exec (.extractSymbol w index) s

/-- 40_symbol_codec R84: the three laws of the codec. -/
def Obligations.CodecLaws : Prop :=
  (∀ b : Byte, joinSymbols (symbolOfByte b 0) (symbolOfByte b 1) (symbolOfByte b 2) (symbolOfByte b 3) = b) ∧
  (∀ s0 s1 s2 s3 : Symbol,
    symbolOfByte (joinSymbols s0 s1 s2 s3) 0 = s0 ∧ symbolOfByte (joinSymbols s0 s1 s2 s3) 1 = s1 ∧
    symbolOfByte (joinSymbols s0 s1 s2 s3) 2 = s2 ∧ symbolOfByte (joinSymbols s0 s1 s2 s3) 3 = s3) ∧
  (∀ (p0 : Word) (t : Fin 16 → Symbol) (i : Fin 16),
    extractSymbol ((List.ofFn t).foldl packSymbol p0) i = t i) ∧
  (∀ (p0 : Word) (b0 b1 b2 b3 : Byte),
    (List.ofFn fun i : Fin 16 => symbolOfByte ([b0, b1, b2, b3].getD (i.val / 4) 0#8) (i.val % 4)).foldl packSymbol p0 =
      b0 ++ b1 ++ b2 ++ b3)

/-- 40_symbol_codec R86: each of the four lines returns `2*digit(line[0]) + digit(line[1])`. A line that arrives on the text
pipe is parsed where a token is due (60_exceptions R161, R167): every line but those four returns the error and is
`SN_MALFORMED`. Elsewhere in `SENDING_NEW`, and in `RETRANSMITTING`, it waits while the machine performs the step of its phase;
in a terminal state it is not parsed and is absorbed (60_exceptions R169, 44_retry_controller R131). An operation word with
any other token returns the error in every state, and is `SN_MALFORMED` where a token is due. The pipe as a request, that it is
part of the model at all, and the operation word are the model's (assumptions 5, 23 and 26). -/
def Obligations.ParseBitPairResult : Prop :=
  (∀ s : State,
    exec .parseBitPair00 s = .next { s with answer := .symbol 0#2 } ∧
    exec .parseBitPair01 s = .next { s with answer := .symbol 1#2 } ∧
    exec .parseBitPair10 s = .next { s with answer := .symbol 2#2 } ∧
    exec .parseBitPair11 s = .next { s with answer := .symbol 3#2 }) ∧
  (∀ (s : State) (line : List Byte) (rest : List Request), s.requests = .line line :: rest →
    s.state = .sendingNew → s.symbolsSent.val < 16 → s.phase = .fetch ∨ s.phase = .symRead →
    (line = [0x30#8, 0x30#8] → step s = exec .parseBitPair00 { s with requests := rest }) ∧
    (line = [0x30#8, 0x31#8] → step s = exec .parseBitPair01 { s with requests := rest }) ∧
    (line = [0x31#8, 0x30#8] → step s = exec .parseBitPair10 { s with requests := rest }) ∧
    (line = [0x31#8, 0x31#8] → step s = exec .parseBitPair11 { s with requests := rest }) ∧
    (line ∉ [[0x30#8, 0x30#8], [0x30#8, 0x31#8], [0x31#8, 0x30#8], [0x31#8, 0x31#8]] →
      step s = exec .snMalformed { s with requests := rest, answer := .malformed })) ∧
  (∀ (s : State) (line : List Byte) (rest : List Request), s.requests = .line line :: rest →
    (s.state = .retransmitting →
      step s = exec (phaseInstr s.phase) s) ∧
    (s.state = .sendingNew → s.symbolsSent.val = 16 ∨ (s.phase ≠ .fetch ∧ s.phase ≠ .symRead) →
      step s = exec (phaseInstr s.phase) s) ∧
    (s.state = .done → step s = exec (.doneAny .malformed) { s with requests := rest }) ∧
    (s.state = .aborted → step s = exec (.abortedAny .malformed) { s with requests := rest })) ∧
  (∀ (s : State) (c0 c1 : Byte) (rest : List Request),
    s.requests = .operation [5#8, 0#8, 0#8, c0, c1, 0#8] :: rest →
    [c0, c1] ∉ [[0x30#8, 0x30#8], [0x30#8, 0x31#8], [0x31#8, 0x30#8], [0x31#8, 0x31#8]] →
    (s.state = .sendingNew → s.symbolsSent.val < 16 → s.phase = .fetch ∨ s.phase = .symRead →
      step s = exec .snMalformed { s with requests := rest, answer := .malformed }) ∧
    (s.state ≠ .sendingNew ∨ s.symbolsSent.val = 16 ∨ (s.phase ≠ .fetch ∧ s.phase ≠ .symRead) →
      step s = .next { s with requests := rest, answer := .malformed }))

/-- 40_symbol_codec R87: 0 is `00`, 1 is `01`, 2 is `10`, 3 is `11`, and parsing what was formatted gives the symbol back. -/
def Obligations.FormatBitPairResult : Prop :=
  (∀ s : State,
    exec .formatBitPair0 s = .next { s with answer := .text 0x30#8 0x30#8 } ∧
    exec .formatBitPair1 s = .next { s with answer := .text 0x30#8 0x31#8 } ∧
    exec .formatBitPair2 s = .next { s with answer := .text 0x31#8 0x30#8 } ∧
    exec .formatBitPair3 s = .next { s with answer := .text 0x31#8 0x31#8 }) ∧
  (∀ t : Symbol, parseBitPair [(formatBitPair t).1, (formatBitPair t).2] = some t)

/-! ### FrameEncoder -/

/-- 41_frame_encoder R90: the checksum is updated first and the packet carries the updated value; nothing else changes. That
this holds in every state, the terminal ones among them, is the model's (assumption 26). -/
def Obligations.EncodeResult : Prop :=
  ∀ (b : Byte) (s : State),
    exec (.encode b) s =
      .next { s with checksum := s.checksum + b, answer := .word (0x02#8 ++ b ++ (s.checksum + b) ++ 0x03#8) }

/-- Encode every byte of a list, in order, stopping where `exec` stops. -/
def encodeEach : List Byte → State → Host.Outcome State Fault Refusal
  | [], s => .next s
  | b :: bs, s =>
    match exec (.encode b) s with
    | .next t => encodeEach bs t
    | .fault r => .fault r
    | .refused r => .refused r

/-- 41_frame_encoder R92: after any sequence of payload bytes the checksum is their exact sum, modulo 256, on top of what it
was; nothing but it and the returned value has changed (in terminal states too: assumption 26). -/
def Obligations.ChecksumIsCumulative : Prop :=
  ∀ (bs : List Byte) (s : State),
    ∃ t, encodeEach bs s = .next t ∧
      t.checksum.toNat = (s.checksum.toNat + (bs.map BitVec.toNat).sum) % 256 ∧
      t = { s with checksum := t.checksum, answer := t.answer }

/-- 41_frame_encoder R93: two consecutive calls with the same byte give checksum bytes that differ by that byte, and the
same packet exactly when the byte is 0 (in terminal states too: assumption 26). -/
def Obligations.EncodeTwiceDiffers : Prop :=
  ∀ (b : Byte) (s : State),
    ∃ t u w1 w2, exec (.encode b) s = .next t ∧ exec (.encode b) t = .next u ∧
      t.answer = .word w1 ∧ u.answer = .word w2 ∧
      w2.extractLsb' 8 8 - w1.extractLsb' 8 8 = b ∧ (w1 = w2 ↔ b = 0#8)

/-! ### LinkTransmitter -/

/-- 42_link_transmitter R100: the read, the write with the clock high, the delay and the write with the clock low, and the
bytes written, in the rule's mask form. That the delay belongs to the second half and `outHold` carries the byte from the
first to it is the model's (assumption 16); so is that the second half runs with an `outHold` that no first half has left
there (assumption 25), and that both run in terminal states (assumption 26). -/
def Obligations.SendSymbolTransactions : Prop :=
  ∀ (t : Symbol) (s : State) (first low : Byte),
    first = (s.out &&& ~~~(dataMask s.cfg ||| clockMask s.cfg)) ||| placeSymbol s.cfg t ||| clockMask s.cfg →
    low = s.outHold &&& ~~~clockMask s.cfg →
      exec (.sendSymbolHigh t) s =
        .next { s with out := first, outHold := first, trace := .wo first :: .ro s.out :: s.trace } ∧
      exec .sendSymbolLow s =
        .next { s with out := low, outHold := low, trace := .wo low :: .dly s.cfg.dataSettle :: s.trace }

/-- 42_link_transmitter R100 corner case iv and R101: after both halves the data pins carry the symbol and the clock is low,
and every other bit of `OUT` is as it was read.
The rows run in terminal states too (assumption 26). -/
def Obligations.LinesCarrySymbol : Prop :=
  ∀ (t : Symbol) (s : State),
    ∃ u v, exec (.sendSymbolHigh t) s = .next u ∧ exec .sendSymbolLow u = .next v ∧
      v.out.extractLsb' s.cfg.pins.dataLow.val 2 = t ∧
      u.out.getLsbD s.cfg.pins.clockBit.val = true ∧ v.out.getLsbD s.cfg.pins.clockBit.val = false ∧
      ∀ k, k ≠ s.cfg.pins.dataLow.val → k ≠ s.cfg.pins.dataLow.val + 1 → k ≠ s.cfg.pins.clockBit.val →
        u.out.getLsbD k = s.out.getLsbD k ∧ v.out.getLsbD k = s.out.getLsbD k

/-- 42_link_transmitter R102: a read and one write with data and clock bits cleared, no delay; asked for from outside, in every
state and at any time (assumption 26). -/
def Obligations.IdleLinesResult : Prop :=
  ∀ (s : State) (v : Byte), v = s.out &&& ~~~(dataMask s.cfg ||| clockMask s.cfg) →
    exec .idleLines s = .next { s with out := v, outHold := v, trace := .wo v :: .ro s.out :: s.trace }

/-- 42_link_transmitter R101: no step of a session changes a bit of `OUT` outside the data and clock bits. -/
def Obligations.SessionKeepsForeignBits : Prop :=
  ∀ s t : State, SessionInv s → step s = .next t →
    t.out &&& ~~~drivenMask s.cfg = s.out &&& ~~~drivenMask s.cfg

/-! ### ResponseMonitor -/

/-- 43_response_monitor R111: the three responses, their transactions and their classifications; the samples are the bytes
`H` and `L` stand for in the notation of 30_encoding R79 (assumption 10).
The rows run in terminal states too (assumption 26). -/
def Obligations.PollResults : Prop :=
  ∀ (s : State) (high : Byte), high = responseMask s.cfg →
    exec .pollTimeout s =
      .next { s with inReads := s.inReads + 1, trace := .ri 0#8 :: s.trace, answer := .classification .timeout } ∧
    exec .pollNack s =
      .next { s with inReads := s.inReads + 2, answer := .classification .nack,
                     trace := .ri 0#8 :: .dly s.cfg.responseSettle :: .ri high :: s.trace } ∧
    exec .pollAck s =
      .next { s with inReads := s.inReads + 2, answer := .classification .ack,
                     trace := .ri high :: .dly s.cfg.responseSettle :: .ri high :: s.trace }

/-- 20_memory R41 and 30_encoding R64: the seven other bits of a sample decide nothing. Two samples with the same response
bit lead to states that differ only in what the trace records of the sample.
The rows run in terminal states too (assumption 26). -/
def Obligations.OnlyResponseBitCounts : Prop :=
  ∀ (s t : State) (v w : Byte) (rest : List Byte) (i : Instr),
    v.getLsbD s.cfg.pins.responseBit.val = w.getLsbD s.cfg.pins.responseBit.val →
    i = .stepPollFirst ∨ i = .stepPollSecond ∨ i = .sampleResponse →
    exec i { s with inAnswers := v :: rest } = .next t →
      exec i { s with inAnswers := w :: rest } = .next { t with trace := .ri w :: s.trace }

/-- 45_port_primitives R150 and 43_response_monitor R110: a read of `IN` answers the byte the environment has there (any
byte, where none was laid out: assumption 2); `SAMPLE_RESPONSE` uses its response bit alone.
The rows run in terminal states too (assumption 26). -/
def Obligations.ReadsAnswerInput : Prop :=
  ∀ s : State, ∃ v : Byte,
    (∀ w rest, s.inAnswers = w :: rest → v = w) ∧
    exec .readInputRegister s =
      .next { s with inAnswers := s.inAnswers.tail, inReads := s.inReads + 1, trace := .ri v :: s.trace, answer := .byte v } ∧
    exec .sampleResponse s =
      .next { s with inAnswers := s.inAnswers.tail, inReads := s.inReads + 1, trace := .ri v :: s.trace,
                     answer := .level (v.getLsbD s.cfg.pins.responseBit.val) }

/-! ### Transitions of the RetryController -/

/-- 44_retry_controller R122 as far as the poll (95_test_vectors V-K2, assumption 11): the packet is built, its sixteen
symbols are sent from `OUT` as it stands, and the package register holds the packet. -/
def Obligations.FirstAttemptSendsGroup : Prop :=
  ∀ (b : Byte) (s : State) (w : Word), s.state = .sendingNew → s.phase = .fetch → s.symbolsSent = 0 →
    w = 0x02#8 ++ b ++ (s.checksum + b) ++ 0x03#8 →
      exec (.snByte b) s =
        .next { s with checksum := s.checksum + b, packet := w, package := w, symbolsSent := 16, phase := .pollFirst,
                       outHold := outAfter s.cfg w s.out 16, out := outAfter s.cfg w s.out 16,
                       trace := groupTrace s.cfg w s.out 16 ++ s.trace }

/-- 44_retry_controller R126 within the bound, as far as the poll (where the transition ends is the model's, assumption 11):
the retry is counted and the sixteen symbols of the retained package are sent; neither it nor the packet nor the checksum nor
the source changes. -/
def Obligations.ReplaySendsRetainedPackage : Prop :=
  ∀ s : State, s.state = .retransmitting → s.phase = .retryCheck → s.symbolsSent = 0 →
    ∀ h : s.retryCount + 1 ≤ s.cfg.maxRetry,
      exec .rtBoundOk s =
        .next { s with retryCount := s.retryCount + 1, retryBounded := Nat.le_succ_of_le h,
                       symbolsSent := 16, phase := .pollFirst,
                       outHold := outAfter s.cfg s.package s.out 16, out := outAfter s.cfg s.package s.out 16,
                       trace := groupTrace s.cfg s.package s.out 16 ++ s.trace }

/-- 44_retry_controller R126 beyond the bound and 60_exceptions R164: nothing is sent, `retryCount` holds `MAX_RETRY` + 1, the
package is kept, and the cleanup of the lines comes next; the step RETRY_CHECK does the same. That the register stays at that
value where it holds it already, which no session reaches, is the model's (assumption 19). -/
def Obligations.ExceededBoundAborts : Prop :=
  ∀ s : State, s.state = .retransmitting → s.phase = .retryCheck → s.symbolsSent = 0 →
    s.retryCount + 1 > s.cfg.maxRetry →
      exec .rtBoundExceeded s =
        .next { s with retryCount := s.cfg.maxRetry + 1, retryBounded := Nat.le_refl _, state := .aborted,
                       cause := .retryBoundExceeded, phase := .cleanRead } ∧
      exec .stepRetryCheck s = exec .rtBoundExceeded s

/-- 44_retry_controller R121: only `state` changes (and `phase`, to the cleanup). -/
def Obligations.EndOfStreamEndsSession : Prop :=
  ∀ s : State, s.state = .sendingNew → s.phase = .fetch → s.symbolsSent = 0 →
    exec .snEos s = .next { s with state := .done, phase := .cleanRead }

/-- 44_retry_controller R123 and R127: `package`, `retryCount` and `symbolsSent` go to 0 and the next byte is fetched; the
lines, the checksum and the packet are not touched. That a transition of Part 1 sets `phase`, as R143 does, is the model's
(assumption 18). -/
def Obligations.AckFetchesNextByte : Prop :=
  ∀ s : State, s.symbolsSent = 16 →
    (s.state = .sendingNew →
      exec .snAck s =
        .next { s with package := 0#32, retryCount := 0, retryBounded := Nat.zero_le _, symbolsSent := 0,
                       phase := .fetch }) ∧
    (s.state = .retransmitting →
      exec .rtAck s =
        .next { s with package := 0#32, retryCount := 0, retryBounded := Nat.zero_le _, symbolsSent := 0,
                       state := .sendingNew, phase := .fetch })

/-- 44_retry_controller R124 and R128: the package is retained unchanged, `retryCount` is not incremented yet, and the retry
check comes next. That a transition of Part 1 sets `phase`, as R143 does, is the model's (assumption 18). -/
def Obligations.NackRetainsPackage : Prop :=
  ∀ s : State, s.symbolsSent = 16 →
    (s.state = .sendingNew →
      exec .snNack s = .next { s with symbolsSent := 0, state := .retransmitting, phase := .retryCheck }) ∧
    (s.state = .retransmitting →
      exec .rtNack s = .next { s with symbolsSent := 0, phase := .retryCheck })

/-- 44_retry_controller R125 and R129: the abort at once, with the cause; `package`, `retryCount`, `checksum` and `packet`
are kept, and the cleanup comes next. -/
def Obligations.TimeoutAborts : Prop :=
  ∀ s : State, s.symbolsSent = 16 →
    (s.state = .sendingNew →
      exec .snTimeout s =
        .next { s with symbolsSent := 0, state := .aborted, cause := .linkTimeout, phase := .cleanRead }) ∧
    (s.state = .retransmitting →
      exec .rtTimeout s =
        .next { s with symbolsSent := 0, state := .aborted, cause := .linkTimeout, phase := .cleanRead })

/-- 60_exceptions R161, R167 and R168: in `SENDING_NEW` a malformed token aborts where a token is due, inside a group too
(90_conflicts C12), and at no other place, a poll among them. That `symbolsSent` is 0 then is read from R168 and decision D8
(assumption 14); which places are token boundaries, and the refusal elsewhere, is the model's reading (assumption 15). -/
def Obligations.MalformedTokenAborts : Prop :=
  ∀ s : State, s.state = .sendingNew →
    (s.symbolsSent.val < 16 → s.phase = .fetch ∨ s.phase = .symRead →
      exec .snMalformed s =
        .next { s with state := .aborted, cause := .malformedSymbolInput, symbolsSent := 0, phase := .cleanRead }) ∧
    (s.symbolsSent.val = 16 ∨ (s.phase ≠ .fetch ∧ s.phase ≠ .symRead) →
      exec .snMalformed s = .refused (.eventCannotOccur .sendingNew .malformed))

/-- 44_retry_controller R131 (95_test_vectors V-K12: "anything"): in a terminal state every one of the thirteen transitions,
whatever its event, clears the lines if that has not been done, and after that changes nothing; and no instruction at all
leads out of a terminal state. That in phase CLEAN_WRITE the write alone is left, and that the whole cleanup is made in every
other phase, CLEAN_READ being the one a session has, is the model's (assumption 18); that the rows of other states are absorbed
too is read from R131 (assumption 15). -/
def Obligations.TerminalStatesStop : Prop :=
  (∀ (s : State) (b : Byte) (e : Event) (i : Instr) (v : Byte),
    v = s.out &&& ~~~(dataMask s.cfg ||| clockMask s.cfg) → s.state = .done ∨ s.state = .aborted →
    i ∈ [Instr.snByte b, .snEos, .snAck, .snNack, .snTimeout, .snMalformed, .rtBoundOk, .rtBoundExceeded, .rtAck, .rtNack,
         .rtTimeout, .doneAny e, .abortedAny e] →
      (s.phase ≠ .cleanWrite → s.phase ≠ .halt →
        exec i s = .next { s with out := v, outHold := v, trace := .wo v :: .ro s.out :: s.trace, phase := .halt }) ∧
      (s.phase = .cleanWrite →
        exec i s = .next { s with out := s.outHold, trace := .wo s.outHold :: s.trace, phase := .halt }) ∧
      (s.phase = .halt → exec i s = .next s)) ∧
  (∀ (s t : State) (i : Instr), s.state = .done ∨ s.state = .aborted → exec i s = .next t →
    t.state = s.state ∧ t.cause = s.cause)

/-- 30_encoding R76: outside a terminal state a transition whose row belongs to another state is refused by name. R77 item f
lists the five pairs of state and event that have no row; that a row asked for in another state than its own, where the event
may have a row of that state, is refused too is the model's (assumption 15). -/
def Obligations.TransitionsNeedTheirState : Prop :=
  ∀ (s : State) (b : Byte) (e : Event),
    (s.state = .retransmitting →
      ∀ p ∈ [(Instr.snByte b, Event.byte), (.snEos, .eos), (.snAck, .ack), (.snNack, .nack), (.snTimeout, .timeout),
             (.snMalformed, .malformed)],
        exec p.1 s = .refused (.eventCannotOccur .retransmitting p.2)) ∧
    (s.state = .sendingNew →
      ∀ p ∈ [(Instr.rtBoundOk, Event.boundOk), (.rtBoundExceeded, .boundExceeded), (.rtAck, .ack), (.rtNack, .nack),
             (.rtTimeout, .timeout)],
        exec p.1 s = .refused (.eventCannotOccur .sendingNew p.2)) ∧
    (s.state = .sendingNew ∨ s.state = .retransmitting →
      exec (.doneAny e) s = .refused (.eventCannotOccur s.state e) ∧
      exec (.abortedAny e) s = .refused (.eventCannotOccur s.state e))

/-! ### The phase machine -/

/-- 44_retry_controller R135. -/
def Obligations.InitStep : Prop :=
  ∀ s : State, s.phase = .init → s.state = .sendingNew →
    exec .stepInit s = .next { s with dir := s.cfg.dirMask, trace := .cfg s.cfg.dirMask :: s.trace, phase := .fetch }

/-- 44_retry_controller R136: end of stream, a byte of the list, and a byte of an endless stream. -/
def Obligations.FetchStep : Prop :=
  ∀ s : State, s.phase = .fetch → s.state = .sendingNew → s.symbolsSent = 0 →
    (s.source = [] → s.endless = false →
      exec .stepFetch s = .next { s with state := .done, phase := .cleanRead, trace := .nb none :: s.trace }) ∧
    (∀ r rest, s.source = r :: rest →
      exec .stepFetch s =
        .next { s with source := rest, taken := s.taken + 1, trace := .nb (some r) :: s.trace,
                       checksum := s.checksum + r, packet := 0x02#8 ++ r ++ (s.checksum + r) ++ 0x03#8,
                       phase := .symRead }) ∧
    (s.source = [] → s.endless = true →
      ∃ r, exec .stepFetch s =
        .next { s with taken := s.taken + 1, trace := .nb (some r) :: s.trace,
                       checksum := s.checksum + r, packet := 0x02#8 ++ r ++ (s.checksum + r) ++ 0x03#8,
                       phase := .symRead })

/-- 44_retry_controller R137: on a first attempt the symbol comes from `packet` and is packed; on a replay it comes from
`package`, which is not modified. -/
def Obligations.SymReadStep : Prop :=
  ∀ (s : State) (k : Fin 16), s.phase = .symRead → s.symbolsSent.val = k.val →
    (s.state = .sendingNew →
      exec .stepSymRead s =
        .next { s with package := packSymbol s.package (symbolOfPacket s.packet k),
                       outHold := (s.out &&& ~~~(dataMask s.cfg ||| clockMask s.cfg)) |||
                         placeSymbol s.cfg (symbolOfPacket s.packet k) ||| clockMask s.cfg,
                       trace := .ro s.out :: s.trace, phase := .symHigh }) ∧
    (s.state = .retransmitting →
      exec .stepSymRead s =
        .next { s with outHold := (s.out &&& ~~~(dataMask s.cfg ||| clockMask s.cfg)) |||
                         placeSymbol s.cfg (extractSymbol s.package k) ||| clockMask s.cfg,
                       trace := .ro s.out :: s.trace, phase := .symHigh })

/-- 44_retry_controller R138, R139 and R140. -/
def Obligations.StrobeSteps : Prop :=
  ∀ (s : State) (k : Fin 16) (v : Byte), s.state = .sendingNew ∨ s.state = .retransmitting →
    s.symbolsSent.val = k.val → v = s.outHold &&& ~~~clockMask s.cfg →
    (s.phase = .symHigh →
      exec .stepSymHigh s = .next { s with out := s.outHold, trace := .wo s.outHold :: s.trace, phase := .symHold }) ∧
    (s.phase = .symHold →
      exec .stepSymHold s = .next { s with trace := .dly s.cfg.dataSettle :: s.trace, phase := .symLow }) ∧
    (s.phase = .symLow → k.val < 15 →
      exec .stepSymLow s =
        .next { s with out := v, outHold := v, trace := .wo v :: s.trace, symbolsSent := k.castSucc + 1, phase := .symRead }) ∧
    (s.phase = .symLow → k.val = 15 →
      exec .stepSymLow s =
        .next { s with out := v, outHold := v, trace := .wo v :: s.trace, symbolsSent := 16, phase := .pollFirst })

/-- 44_retry_controller R141: a first sample whose response bit is 0 aborts at once; otherwise the settle delay comes next.
The sample is what the environment has there, any byte where none was laid out (assumption 2). -/
def Obligations.PollFirstStep : Prop :=
  ∀ s : State, s.phase = .pollFirst → s.symbolsSent = 16 → s.state = .sendingNew ∨ s.state = .retransmitting →
    ∃ r : Byte, (∀ w rest, s.inAnswers = w :: rest → r = w) ∧
      (r &&& responseMask s.cfg = 0#8 →
        exec .stepPollFirst s =
          .next { s with inAnswers := s.inAnswers.tail, inReads := s.inReads + 1, trace := .ri r :: s.trace,
                         symbolsSent := 0, state := .aborted, cause := .linkTimeout, phase := .cleanRead }) ∧
      (r &&& responseMask s.cfg ≠ 0#8 →
        exec .stepPollFirst s =
          .next { s with inAnswers := s.inAnswers.tail, inReads := s.inReads + 1, trace := .ri r :: s.trace,
                         phase := .pollSettle })

/-- 44_retry_controller R142 and R143: the delay, then the sample that tells ACK from NACK (any byte where none was laid
out: assumption 2). -/
def Obligations.PollSecondSteps : Prop :=
  ∀ s : State, s.symbolsSent = 16 → s.state = .sendingNew ∨ s.state = .retransmitting →
    (s.phase = .pollSettle →
      exec .stepPollSettle s = .next { s with trace := .dly s.cfg.responseSettle :: s.trace, phase := .pollSecond }) ∧
    (s.phase = .pollSecond →
      ∃ r : Byte, (∀ w rest, s.inAnswers = w :: rest → r = w) ∧
        (r &&& responseMask s.cfg ≠ 0#8 →
          exec .stepPollSecond s =
            .next { s with inAnswers := s.inAnswers.tail, inReads := s.inReads + 1, trace := .ri r :: s.trace,
                           symbolsSent := 0, package := 0#32, retryCount := 0, retryBounded := Nat.zero_le _,
                           state := .sendingNew, phase := .fetch }) ∧
        (r &&& responseMask s.cfg = 0#8 →
          exec .stepPollSecond s =
            .next { s with inAnswers := s.inAnswers.tail, inReads := s.inReads + 1, trace := .ri r :: s.trace,
                           symbolsSent := 0, state := .retransmitting, phase := .retryCheck }))

/-- 44_retry_controller R144: no transaction; the increment is kept on both branches. The register holds at most `MAX_RETRY`
when the check is due, which is part of the invariant every step of a session keeps (`SessionInv`); `ExceededBoundAborts` says
what happens at its top value. -/
def Obligations.RetryCheckStep : Prop :=
  ∀ s : State, s.phase = .retryCheck → s.state = .retransmitting → s.symbolsSent = 0 →
    ∀ h : s.retryCount ≤ s.cfg.maxRetry,
      (s.retryCount + 1 > s.cfg.maxRetry →
        exec .stepRetryCheck s =
          .next { s with retryCount := s.retryCount + 1, retryBounded := Nat.succ_le_succ h, state := .aborted,
                         cause := .retryBoundExceeded, phase := .cleanRead }) ∧
      (s.retryCount + 1 ≤ s.cfg.maxRetry →
        exec .stepRetryCheck s =
          .next { s with retryCount := s.retryCount + 1, retryBounded := Nat.succ_le_succ h, phase := .symRead })

/-- 44_retry_controller R145 and R146. -/
def Obligations.CleanSteps : Prop :=
  ∀ s : State, s.state = .done ∨ s.state = .aborted →
    (s.phase = .cleanRead →
      exec .stepCleanRead s =
        .next { s with outHold := s.out &&& ~~~(dataMask s.cfg ||| clockMask s.cfg), trace := .ro s.out :: s.trace,
                       phase := .cleanWrite }) ∧
    (s.phase = .cleanWrite →
      exec .stepCleanWrite s = .next { s with out := s.outHold, trace := .wo s.outHold :: s.trace, phase := .halt })

/-- 44_retry_controller R147 and 10_state R28 ("`HALT` is absorbing"): the step of a halted machine changes nothing
(assumption 12). -/
def Obligations.HaltAbsorbs : Prop :=
  ∀ s : State, s.phase = .halt →
    exec .stepHalt s = .next s ∧ (s.requests = [] → ∀ n, Host.Core.run Sys2Proof.core n s = .next s)

/-- 44_retry_controller R134: a step the block takes by itself performs at most one external transaction. -/
def Obligations.OneTransactionPerStep : Prop :=
  ∀ s t : State, s.requests = [] → step s = .next t →
    t.trace = s.trace ∨ ∃ e, t.trace = e :: s.trace

/-- 20_memory R55: what a replay sends is decided by `package` alone: another packet, checksum or byte source (the bytes left,
whether it goes on for ever, how far it has been read) gives the same transactions and the same `OUT`. -/
def Obligations.ReplayIgnoresPacketAndSource : Prop :=
  ∀ (s t : State) (w : Word) (c : Byte) (src : List Byte) (e : Bool) (n : Nat), s.state = .retransmitting →
    exec .rtBoundOk s = .next t →
      exec .rtBoundOk { s with packet := w, checksum := c, source := src, endless := e, taken := n } =
        .next { t with packet := w, checksum := c, source := src, endless := e, taken := n }

/-! ### External primitives -/

/-- 45_port_primitives R152, R153 and R154: the write of the whole register, the direction setting, the delay (in terminal
states too: assumption 26). -/
def Obligations.PortPrimitives : Prop :=
  ∀ (s : State) (v m : Byte) (n : Nat),
    exec (.writeOutputRegister v) s = .next { s with out := v, trace := .wo v :: s.trace } ∧
    exec (.configureDirection m) s = .next { s with dir := m, trace := .cfg m :: s.trace } ∧
    exec (.delay n) s = .next { s with trace := .dly n :: s.trace }

/-- 45_port_primitives R151: a read answers the register's content, which under every instruction stays the last value
written in the session, or what it held at the start.
The rows run in terminal states too (assumption 26). -/
def Obligations.OutIsLastWritten : Prop :=
  (∀ s : State, exec .readOutputRegister s = .next { s with trace := .ro s.out :: s.trace, answer := .byte s.out }) ∧
  (∀ (s t : State) (i : Instr) (first : Byte), s.out = lastWritten first s.trace → exec i s = .next t →
    t.out = lastWritten first t.trace)

/-- 45_port_primitives R155: the next byte of the stream, and end of stream when none is left; an endless stream never
ends (assumption 3). The row runs in terminal states too (assumption 26). -/
def Obligations.NextByteResult : Prop :=
  ∀ s : State,
    (∀ b rest, s.source = b :: rest →
      exec .nextByte s =
        .next { s with source := rest, taken := s.taken + 1, trace := .nb (some b) :: s.trace, answer := .byte b }) ∧
    (s.source = [] → s.endless = false →
      exec .nextByte s = .next { s with trace := .nb none :: s.trace, answer := .endOfStream }) ∧
    (s.source = [] → s.endless = true →
      ∃ b, exec .nextByte s = .next { s with taken := s.taken + 1, trace := .nb (some b) :: s.trace, answer := .byte b })

/-! ### Reset and whole-machine rules -/

/-- 45_port_primitives R156: the nine registers get their reset values, from any state; `OUT`, the direction, the byte source
and the answers of `IN` are not touched. That the trace starts again is this model's (assumption 17). -/
def Obligations.RestartResetsBlock : Prop :=
  ∀ (s : State) (rest : List Request), s.requests = .restart :: rest →
    step s =
      .next { s with checksum := 0#8, package := 0#32, packet := 0#32, symbolsSent := 0, retryCount := 0,
                     retryBounded := Nat.zero_le _, state := .sendingNew, cause := .none, outHold := 0#8, phase := .init, trace := [], requests := rest }

/-- 10_state R34: the block's registers after reset; `OUT` holds what was loaded (the 0 in `State.reset` is this model's,
assumption 1) and restarting a machine just reset changes nothing. -/
def Obligations.ResetValues : Prop :=
  (∀ (cfg : Config) (outInit : Byte) (src : List Byte) (endless : Bool) (answers : List Byte) (s : State),
    s = State.load cfg outInit src endless answers →
      s.checksum = 0x00#8 ∧ s.package = 0#32 ∧ s.symbolsSent = 0 ∧ s.retryCount = 0 ∧ s.state = .sendingNew ∧
      s.cause = .none ∧ s.phase = .init ∧ s.packet = 0#32 ∧ s.outHold = 0x00#8 ∧ s.out = outInit ∧ s.cfg = cfg ∧
      s.source = src ∧ s.trace = []) ∧
  State.reset = State.load Config.reference 0#8 [] false [] ∧ sessionRestart State.reset = State.reset

/-- 10_state R27: `cause` changes only in the step that sets `state` to `ABORTED`. -/
def Obligations.CauseWrittenOnAbort : Prop :=
  ∀ (s t : State) (i : Instr), exec i s = .next t →
    t.cause = s.cause ∨ (s.state ≠ .aborted ∧ t.state = .aborted)

/-- 10_state R21, R22: `checksum` is written by `encode` alone, which `SN_BYTE` and the `FETCH` step perform; `packet` by
those two alone. No instruction writes the configuration or the pending requests. -/
def Obligations.EncoderOwnsChecksum : Prop :=
  ∀ (s t : State) (i : Instr), exec i s = .next t →
    t.cfg = s.cfg ∧ t.requests = s.requests ∧
    (i ≠ .stepFetch → (∀ b, i ≠ .snByte b) → t.packet = s.packet ∧ ((∀ b, i ≠ .encode b) → t.checksum = s.checksum))

/-! ### The session -/

/-- 10_state R33: the invariant holds of a block just reset, whatever is loaded. -/
def Obligations.LoadedMeetsSessionInv : Prop :=
  ∀ (cfg : Config) (outInit : Byte) (src : List Byte) (endless : Bool) (answers : List Byte),
    SessionInv (State.load cfg outInit src endless answers)

/-- 10_state R33, items a to i: every step keeps the invariant of a session, from every state that meets it. -/
def Obligations.StepKeepsSessionInv : Prop :=
  ∀ s t : State, SessionInv s → step s = .next t → SessionInv t

/-- 44_retry_controller R134: in a session a step is enabled in every phase except `HALT`; it ends in no fault and no refusal.
That the step of a halted session answers a state, too, is the model's (assumption 12). -/
def Obligations.SessionNeverStops : Prop :=
  ∀ s : State, SessionInv s → ∃ t, step s = .next t

/-- 44_retry_controller R147, 60_exceptions R168: whenever a session, whatever its stimulus and configuration, has halted,
its state is terminal and the data and clock lines are low; it says so by its cause whether it was aborted. -/
def Obligations.HaltedSessionIsIdle : Prop :=
  ∀ (cfg : Config) (outInit : Byte) (src : List Byte) (endless : Bool) (answers : List Byte) (n : Nat) (t : State),
    Host.Core.run Sys2Proof.core n (State.load cfg outInit src endless answers) = .next t → t.phase = .halt →
      t.out &&& (dataMask cfg ||| clockMask cfg) = 0#8 ∧ t.symbolsSent = 0 ∧
      ((t.state = .done ∧ t.cause = .none) ∨
       (t.state = .aborted ∧ (t.cause = .linkTimeout ∨ t.cause = .retryBoundExceeded))) ∧
      (t.cause = .retryBoundExceeded ↔ t.retryCount = cfg.maxRetry + 1) ∧
      t.out &&& ~~~(dataMask cfg ||| clockMask cfg) = outInit &&& ~~~(dataMask cfg ||| clockMask cfg)

/-- 44_retry_controller R149 with R132: a session with a finite byte source halts, and no later than one setting of the
direction, `MAX_RETRY` + 1 times 68 steps for each byte, one failed check or end of stream, and the cleanup allow. That a run
goes on to the bound once the session has halted is the model's (assumption 12). -/
def Obligations.FiniteSessionHalts : Prop :=
  ∀ (cfg : Config) (outInit : Byte) (src answers : List Byte),
    ∃ t, Host.Core.run Sys2Proof.core (4 + 68 * (cfg.maxRetry + 1) * src.length)
        (State.load cfg outInit src false answers) = .next t ∧ t.phase = .halt

/-- 44_retry_controller R148: the phase machine refines procedure `Session` of R130. Wherever a turn of the procedure's loop
begins, the steps reach exactly the state the turn leads to, trace included, in at most 68 steps. -/
def Obligations.PhaseMachineRefinesSession : Prop :=
  (∀ s : State, SessionInv s → s.phase = .init → Host.Core.run Sys2Proof.core 1 s = .next (sessionStart s)) ∧
  (∀ s : State, SessionInv s → s.phase = .fetch ∨ s.phase = .retryCheck ∨ s.phase = .cleanRead →
    ∃ n, 1 ≤ n ∧ n ≤ 68 ∧ Host.Core.run Sys2Proof.core n s = .next (sessionRound s) ∧
      ((sessionRound s).phase = .fetch ∨ (sessionRound s).phase = .retryCheck ∨
       (sessionRound s).phase = .cleanRead ∨ (sessionRound s).phase = .halt))

/-! ### Where a step is refused -/

/-- 44_retry_controller R134, R131 and the "requires" clauses of R136, R137, R141, R144 and R145: a step asked for outside its
phase, in a terminal state (but for the cleanup) or against its clause is refused by name; the cleanup is refused in a state
that is not terminal. That SYM_HIGH, SYM_HOLD, SYM_LOW and POLL_SETTLE, POLL_SECOND, which have no clause of their own, keep the
one of SYM_READ and of POLL_FIRST is the model's (assumption 27), and so is refusing at all (assumption 15). -/
def Obligations.StepsRefusedElsewhere : Prop :=
  ∀ s : State,
    (∀ p : Phase, s.phase ≠ p → exec (phaseInstr p) s = .refused (.stepNotEnabled p)) ∧
    (∀ p ∈ [Phase.init, .fetch, .symRead, .symHigh, .symHold, .symLow, .pollFirst, .pollSettle, .pollSecond, .retryCheck],
      s.state = .done ∨ s.state = .aborted → exec (phaseInstr p) s = .refused (.stepNotEnabled p)) ∧
    (∀ p ∈ [Phase.symRead, .symHigh, .symHold, .symLow],
      s.symbolsSent.val = 16 → exec (phaseInstr p) s = .refused (.stepNotEnabled p)) ∧
    (∀ p ∈ [Phase.pollFirst, .pollSettle, .pollSecond],
      s.symbolsSent.val < 16 → exec (phaseInstr p) s = .refused (.stepNotEnabled p)) ∧
    (s.symbolsSent ≠ 0 → exec .stepFetch s = .refused (.stepNotEnabled .fetch)) ∧
    (s.state = .retransmitting →
      exec .stepInit s = .refused (.stepNotEnabled .init) ∧ exec .stepFetch s = .refused (.stepNotEnabled .fetch)) ∧
    (s.state = .sendingNew → exec .stepRetryCheck s = .refused (.stepNotEnabled .retryCheck)) ∧
    (s.state = .sendingNew ∨ s.state = .retransmitting →
      exec .stepCleanRead s = .refused (.stepNotEnabled .cleanRead) ∧
      exec .stepCleanWrite s = .refused (.stepNotEnabled .cleanWrite))
end

