-- ==== Sys2Proof/Laws/Decode.lean ====
section
/-! SUPPORT. The container of an operation word: its six bytes are read back as they were written. -/

namespace Sys2Proof

/-- A word is its four bytes, the first most significant (20_memory R45). -/
theorem wordBytes_join (w : Word) :
    w.extractLsb' 24 8 ++ w.extractLsb' 16 8 ++ w.extractLsb' 8 8 ++ w.extractLsb' 0 8 = w := by
  apply BitVec.eq_of_toNat_eq
  have hw := w.isLt
  have h1 := (w.extractLsb' 16 8).isLt
  have h2 := (w.extractLsb' 8 8).isLt
  have h3 := (w.extractLsb' 0 8).isLt
  simp only [BitVec.toNat_append]
  rw [← Nat.shiftLeft_add_eq_or_of_lt h3, ← Nat.shiftLeft_add_eq_or_of_lt h2, ← Nat.shiftLeft_add_eq_or_of_lt h1]
  simp only [BitVec.extractLsb'_toNat, Nat.shiftLeft_eq, Nat.shiftRight_eq_div_pow]
  omega

/-- Every operation is found by its code. -/
theorem operationOfCode_code (op : Operation) : operationOfCode op.code = some op := by
  cases op <;> rfl

/-- What the decoder makes of an operation word and the bytes behind it. -/
theorem decode_operationBytes (op : Operation) (w : Word) (x : Byte) (rest : List Byte) :
    decode (operationBytes op w x ++ rest) =
      (match decodeOperation op w x with
       | .ok i => .ok (i, rest)
       | .error e => .error e) := by
  simp only [operationBytes, wordBytes, List.cons_append, List.nil_append, decode, operationOfCode_code]
  rw [wordBytes_join]
  all_goals (cases decodeOperation op w x <;> rfl)

/-- A token's two characters are read back, the first from the higher byte (30_encoding R66). -/
theorem tokenWord_parts (c0 c1 : Byte) :
    (0#8 ++ 0#8 ++ c0 ++ c1 : Word).extractLsb' 8 8 = c0 ∧ (0#8 ++ 0#8 ++ c0 ++ c1 : Word).extractLsb' 0 8 = c1 ∧
    (0#8 ++ 0#8 ++ c0 ++ c1 : Word).toNat < 2 ^ 16 := by
  have h0 := c0.isLt
  have h1 := c1.isLt
  have hn : (0#8 ++ 0#8 ++ c0 ++ c1 : Word).toNat = 2 ^ 8 * c0.toNat + c1.toNat := by
    simp only [BitVec.toNat_append]
    rw [← Nat.shiftLeft_add_eq_or_of_lt h1, ← Nat.shiftLeft_add_eq_or_of_lt h0]
    simp [Nat.shiftLeft_eq]
    omega
  refine ⟨?_, ?_, by omega⟩ <;> apply BitVec.eq_of_toNat_eq <;>
    simp only [BitVec.extractLsb'_toNat, hn, Nat.shiftRight_eq_div_pow] <;> omega

/-- The operation word of a token is its row, or no row at all (40_symbol_codec R86). -/
theorem decode_token (c0 c1 : Byte) :
    decode [5#8, 0#8, 0#8, c0, c1, 0#8] =
      (match tokenInstr c0 c1 with
       | .ok i => .ok (i, [])
       | .error e => .error e) := by
  obtain ⟨h0, h1, hw⟩ := tokenWord_parts c0 c1
  have hd : decodeOperation .parseBitPair (0#8 ++ 0#8 ++ c0 ++ c1) 0#8 = tokenInstr c0 c1 := by
    simp only [decodeOperation, rowOf, Operation.width, Operation.extraBound, h0, h1, Nat.not_le_of_lt hw]
    simp
  show (match decodeOperation .parseBitPair (0#8 ++ 0#8 ++ c0 ++ c1) 0#8 with
    | .ok i => Except.ok (i, [])
    | .error e => .error e) = _
  rw [hd]

/-- Any 32-bit word fits a 32-bit format. -/
theorem word_fits (w : Word) : ¬ 2 ^ 32 ≤ w.toNat := by
  have := w.isLt
  omega

/-- A narrower value put into the word fits its format. -/
theorem setWidth_fits (n : Nat) (b : BitVec n) (h : n ≤ 32) : ¬ 2 ^ n ≤ (b.setWidth 32).toNat := by
  have hb := b.isLt
  have : b.toNat % 2 ^ 32 = b.toNat := Nat.mod_eq_of_lt (lt_of_lt_of_le hb (Nat.pow_le_pow_right (by omega) h))
  rw [BitVec.toNat_setWidth]
  omega

end Sys2Proof
end

