-- ==== Sys2Proof/Laws/Operands.lean ====
section
/-! SUPPORT. What the operand forms compute: symbols of a word one by one, and the three output bytes bit by bit. -/

namespace Sys2Proof.Machine

/-- Counting a symbol that was due. -/
theorem countUp_val (n : Fin 17) (h : n.val < 16) : (countUp n).val = n.val + 1 := by
  simp [countUp, h]

/-- The due index is the count itself while a symbol is due (10_state R24). -/
theorem dueIndex_val (n : Fin 17) (h : n.val < 16) : (dueIndex n).val = n.val := by
  simp [dueIndex, Fin.ofNat, Nat.mod_eq_of_lt h]

/-- The first attempt and a replay read the same symbol of a word (40_symbol_codec R85). -/
theorem symbolOfPacket_eq_extractSymbol (w : Word) (i : Fin 16) : symbolOfPacket w i = extractSymbol w i := by
  apply BitVec.eq_of_getLsbD_eq
  intro j hj
  have h : 24 - 8 * (i.val / 4) + (6 - 2 * (i.val % 4)) = 30 - 2 * i.val := by omega
  simp only [symbolOfPacket, symbolOfByte, byteOfPacket, extractSymbol, BitVec.getLsbD_setWidth, BitVec.getLsbD_ushiftRight, ← Nat.add_assoc, h]
  have : 6 - 2 * (i.val % 4) + j < 8 := by omega
  simp [this]

/-- Packing the next symbol of a word onto the symbols before it. -/
theorem packSymbol_prefix (w : Word) (i : Fin 16) :
    packSymbol (w >>> (32 - 2 * i.val)) (extractSymbol w i) = w >>> (32 - 2 * (i.val + 1)) := by
  apply BitVec.eq_of_getLsbD_eq
  intro j hj
  simp only [packSymbol, extractSymbol, BitVec.getLsbD_or, BitVec.getLsbD_shiftLeft, BitVec.getLsbD_setWidth, BitVec.getLsbD_ushiftRight]
  have h1 : 32 - 2 * (i.val + 1) = 30 - 2 * i.val := by omega
  rw [h1]
  by_cases h2 : j < 2
  · simp [hj, h2]
  · simp only [hj, h2, decide_true, decide_false, Bool.not_false, Bool.true_and, Bool.false_and, Bool.or_false]
    congr 1; omega

/-- The payload of a packet is its second byte (30_encoding R61). -/
theorem byteOfPacket_packetOf (b c : Byte) : byteOfPacket (packetOf b c) 1 = b := by
  apply BitVec.eq_of_toNat_eq
  have hb := b.isLt
  have hc := c.isLt
  simp only [byteOfPacket, packetOf, BitVec.toNat_setWidth, BitVec.toNat_ushiftRight, BitVec.toNat_append, BitVec.toNat_ofNat, startByte, endByte]
  rw [← Nat.shiftLeft_add_eq_or_of_lt (by omega : (3 % 2^8) < 2^8), ← Nat.shiftLeft_add_eq_or_of_lt (b := c.toNat) hc, ← Nat.shiftLeft_add_eq_or_of_lt hb]
  simp only [Nat.shiftLeft_eq, Nat.shiftRight_eq_div_pow]
  omega

/-! The masks (00_scope R8, decision D5). -/

theorem clock_disjoint (c : Config) : clockMask c &&& dataMask c = 0#8 := by
  obtain ⟨_, _, _, ⟨d, k, r, h⟩, _⟩ := c
  revert d k r
  simp only [clockMask, dataMask]
  decide

theorem place_and_clock (c : Config) (t : Symbol) : placeSymbol c t &&& clockMask c = 0#8 := by
  obtain ⟨_, _, _, ⟨d, k, r, h⟩, _⟩ := c
  revert t d k r
  simp only [clockMask, placeSymbol]
  decide

theorem strobeLow_clock (c : Config) (v : Byte) : strobeLow c v &&& clockMask c = 0#8 := by
  simp [strobeLow, BitVec.and_assoc]

theorem idleByte_driven (c : Config) (v : Byte) : idleByte c v &&& drivenMask c = 0#8 := by
  simp [idleByte, BitVec.and_assoc]

theorem place_in_driven (c : Config) (t : Symbol) : placeSymbol c t &&& ~~~drivenMask c = 0#8 := by
  obtain ⟨_, _, _, ⟨d, k, r, h⟩, _⟩ := c
  revert t d k r
  simp only [drivenMask, clockMask, placeSymbol, dataMask]
  decide

theorem clock_in_driven (c : Config) : clockMask c &&& ~~~drivenMask c = 0#8 := by
  simp only [drivenMask]
  ext i hi
  simp
  grind

/-- The first write changes no foreign bit (42_link_transmitter R101). -/
theorem strobeHigh_foreign (c : Config) (v : Byte) (t : Symbol) :
    strobeHigh c v t &&& ~~~drivenMask c = v &&& ~~~drivenMask c := by
  have h1 := place_in_driven c t
  have h2 := clock_in_driven c
  unfold strobeHigh
  generalize placeSymbol c t = p at *
  generalize clockMask c = k at *
  generalize drivenMask c = d at *
  ext i hi
  have h1 := congrArg (·[i]) h1
  have h2 := congrArg (·[i]) h2
  simp at *
  grind

/-- Reading after the strobe rose: computing the strobe again from it gives the same byte. -/
theorem strobeHigh_idem (c : Config) (v : Byte) (t : Symbol) :
    strobeHigh c (strobeHigh c v t) t = strobeHigh c v t := by
  have h := strobeHigh_foreign c v t
  show (strobeHigh c v t &&& ~~~drivenMask c) ||| placeSymbol c t ||| clockMask c = _
  rw [h]; rfl

/-- The second write changes no foreign bit. -/
theorem strobeLow_foreign (c : Config) (v : Byte) :
    strobeLow c v &&& ~~~drivenMask c = v &&& ~~~drivenMask c := by
  have h2 := clock_in_driven c
  unfold strobeLow
  generalize clockMask c = k at *
  generalize drivenMask c = d at *
  ext i hi
  have h2 := congrArg (·[i]) h2
  simp at *
  grind

/-! The output bytes bit by bit. -/

theorem clockMask_bit : ∀ k j : Fin 8, (1#8 <<< k.val).getLsbD j.val = decide (j.val = k.val) := by decide

theorem dataMask_bit :
    ∀ (d : Fin 7) (j : Fin 8), (3#8 <<< d.val).getLsbD j.val = decide (j.val = d.val ∨ j.val = d.val + 1) := by decide

theorem placeSymbol_bit : ∀ (t : Symbol) (d : Fin 7) (j : Fin 8),
    (t.setWidth 8 <<< d.val).getLsbD j.val =
      (if j.val = d.val then t.getLsbD 0 else if j.val = d.val + 1 then t.getLsbD 1 else false) := by decide

/-- The first write: clock high, the symbol on the data bits, the rest as read (42_link_transmitter R100, R101). -/
theorem strobeHigh_bit (c : Config) (v : Byte) (t : Symbol) (j : Fin 8) :
    (strobeHigh c v t).getLsbD j.val =
      (if j.val = c.pins.clockBit.val then true
       else if j.val = c.pins.dataLow.val then t.getLsbD 0
       else if j.val = c.pins.dataLow.val + 1 then t.getLsbD 1
       else v.getLsbD j.val) := by
  simp only [strobeHigh, drivenMask, dataMask, clockMask, placeSymbol, BitVec.getLsbD_or, BitVec.getLsbD_and,
    BitVec.getLsbD_not, clockMask_bit, dataMask_bit, placeSymbol_bit, j.isLt]
  by_cases h1 : j.val = c.pins.clockBit.val <;> by_cases h2 : j.val = c.pins.dataLow.val <;>
    by_cases h3 : j.val = c.pins.dataLow.val + 1 <;> simp [*, Bool.or_comm]

/-- The second write: the clock low, everything else as held. -/
theorem strobeLow_bit (c : Config) (v : Byte) (j : Fin 8) :
    (strobeLow c v).getLsbD j.val = (if j.val = c.pins.clockBit.val then false else v.getLsbD j.val) := by
  simp only [strobeLow, clockMask, BitVec.getLsbD_and, BitVec.getLsbD_not, clockMask_bit, j.isLt]
  by_cases h1 : j.val = c.pins.clockBit.val <;> simp [*]

/-- The clock pin is neither data pin (decision D5). -/
theorem pins_apart (p : Pins) :
    p.clockBit.val ≠ p.dataLow.val ∧ p.clockBit.val ≠ p.dataLow.val + 1 ∧
    p.responseBit.val ≠ p.dataLow.val ∧ p.responseBit.val ≠ p.dataLow.val + 1 := by
  have h := p.legal
  simp [pinsDisjoint] at h
  omega

theorem singleBit_and : ∀ (v : Byte) (r : Fin 8), (v &&& (1#8 <<< r.val) != 0#8) = v.getLsbD r.val := by decide

/-- A sample is its response bit (30_encoding R64). -/
theorem responseHigh_eq (c : Config) (v : Byte) : responseHigh c v = v.getLsbD c.pins.responseBit.val :=
  singleBit_and v c.pins.responseBit

/-! The word shifted through the package register. -/

/-- The package register `p0` after the first `n` symbols of `w` were packed onto it. -/
def packedOnto (p0 w : Word) (n : Nat) : Word :=
  (p0 <<< (2 * n)) ||| (w >>> (32 - 2 * n))

/-- One more symbol packed. -/
theorem packedOnto_succ (p0 w : Word) (i : Fin 16) :
    packSymbol (packedOnto p0 w i.val) (extractSymbol w i) = packedOnto p0 w (i.val + 1) := by
  have h := packSymbol_prefix w i
  unfold packedOnto
  rw [← h]
  unfold packSymbol
  apply BitVec.eq_of_getLsbD_eq
  intro j hj
  simp only [BitVec.getLsbD_or, BitVec.getLsbD_shiftLeft, BitVec.getLsbD_setWidth, BitVec.getLsbD_ushiftRight, hj,
    decide_true, Bool.true_and]
  by_cases h2 : j < 2
  · simp [h2, show j < 2 * (i.val + 1) by omega]
  · simp only [h2, show j - 2 < 32 by omega, decide_true, decide_false, Bool.not_false, Bool.true_and]
    by_cases h3 : j < 2 * (i.val + 1)
    · simp [h3, show j - 2 < 2 * i.val by omega]
    · simp [h3, show ¬ j - 2 < 2 * i.val by omega]
      have : j - 2 - 2 * i.val = j - 2 * (i.val + 1) := by omega
      rw [this]
      simp [Bool.or_assoc]

/-- After sixteen symbols nothing of the old content is left (10_state R23). -/
theorem packedOnto_all (p0 w : Word) : packedOnto p0 w 16 = w := by
  simp [packedOnto]

end Sys2Proof.Machine
end

