-- ==== Sys2Proof/Laws/State.lean ====
section
/-! SUPPORT. The fields of State after each primitive update: one lemma per field and update, so that no proof unfolds a
record update. -/

namespace Sys2Proof.Machine

@[simp] theorem emit_cfg (e : Transaction) (s : State) : (emit e s).cfg = s.cfg := rfl
@[simp] theorem emit_checksum (e : Transaction) (s : State) : (emit e s).checksum = s.checksum := rfl
@[simp] theorem emit_package (e : Transaction) (s : State) : (emit e s).package = s.package := rfl
@[simp] theorem emit_symbolsSent (e : Transaction) (s : State) : (emit e s).symbolsSent = s.symbolsSent := rfl
@[simp] theorem emit_retryCount (e : Transaction) (s : State) : (emit e s).retryCount = s.retryCount := rfl
@[simp] theorem emit_state (e : Transaction) (s : State) : (emit e s).state = s.state := rfl
@[simp] theorem emit_packet (e : Transaction) (s : State) : (emit e s).packet = s.packet := rfl
@[simp] theorem emit_cause (e : Transaction) (s : State) : (emit e s).cause = s.cause := rfl
@[simp] theorem emit_phase (e : Transaction) (s : State) : (emit e s).phase = s.phase := rfl
@[simp] theorem emit_outHold (e : Transaction) (s : State) : (emit e s).outHold = s.outHold := rfl
@[simp] theorem emit_out (e : Transaction) (s : State) : (emit e s).out = s.out := rfl
@[simp] theorem emit_dir (e : Transaction) (s : State) : (emit e s).dir = s.dir := rfl
@[simp] theorem emit_inAnswers (e : Transaction) (s : State) : (emit e s).inAnswers = s.inAnswers := rfl
@[simp] theorem emit_inReads (e : Transaction) (s : State) : (emit e s).inReads = s.inReads := rfl
@[simp] theorem emit_source (e : Transaction) (s : State) : (emit e s).source = s.source := rfl
@[simp] theorem emit_endless (e : Transaction) (s : State) : (emit e s).endless = s.endless := rfl
@[simp] theorem emit_taken (e : Transaction) (s : State) : (emit e s).taken = s.taken := rfl
@[simp] theorem emit_trace (e : Transaction) (s : State) : (emit e s).trace = e :: s.trace := rfl
@[simp] theorem emit_answer (e : Transaction) (s : State) : (emit e s).answer = s.answer := rfl
@[simp] theorem emit_requests (e : Transaction) (s : State) : (emit e s).requests = s.requests := rfl

@[simp] theorem writeOut_cfg (v : Byte) (s : State) : (writeOut v s).cfg = s.cfg := rfl
@[simp] theorem writeOut_checksum (v : Byte) (s : State) : (writeOut v s).checksum = s.checksum := rfl
@[simp] theorem writeOut_package (v : Byte) (s : State) : (writeOut v s).package = s.package := rfl
@[simp] theorem writeOut_symbolsSent (v : Byte) (s : State) : (writeOut v s).symbolsSent = s.symbolsSent := rfl
@[simp] theorem writeOut_retryCount (v : Byte) (s : State) : (writeOut v s).retryCount = s.retryCount := rfl
@[simp] theorem writeOut_state (v : Byte) (s : State) : (writeOut v s).state = s.state := rfl
@[simp] theorem writeOut_packet (v : Byte) (s : State) : (writeOut v s).packet = s.packet := rfl
@[simp] theorem writeOut_cause (v : Byte) (s : State) : (writeOut v s).cause = s.cause := rfl
@[simp] theorem writeOut_phase (v : Byte) (s : State) : (writeOut v s).phase = s.phase := rfl
@[simp] theorem writeOut_outHold (v : Byte) (s : State) : (writeOut v s).outHold = s.outHold := rfl
@[simp] theorem writeOut_out (v : Byte) (s : State) : (writeOut v s).out = v := rfl
@[simp] theorem writeOut_dir (v : Byte) (s : State) : (writeOut v s).dir = s.dir := rfl
@[simp] theorem writeOut_inAnswers (v : Byte) (s : State) : (writeOut v s).inAnswers = s.inAnswers := rfl
@[simp] theorem writeOut_inReads (v : Byte) (s : State) : (writeOut v s).inReads = s.inReads := rfl
@[simp] theorem writeOut_source (v : Byte) (s : State) : (writeOut v s).source = s.source := rfl
@[simp] theorem writeOut_endless (v : Byte) (s : State) : (writeOut v s).endless = s.endless := rfl
@[simp] theorem writeOut_taken (v : Byte) (s : State) : (writeOut v s).taken = s.taken := rfl
@[simp] theorem writeOut_trace (v : Byte) (s : State) : (writeOut v s).trace = .wo v :: s.trace := rfl
@[simp] theorem writeOut_answer (v : Byte) (s : State) : (writeOut v s).answer = s.answer := rfl
@[simp] theorem writeOut_requests (v : Byte) (s : State) : (writeOut v s).requests = s.requests := rfl

@[simp] theorem delayFor_cfg (n : Nat) (s : State) : (delayFor n s).cfg = s.cfg := rfl
@[simp] theorem delayFor_checksum (n : Nat) (s : State) : (delayFor n s).checksum = s.checksum := rfl
@[simp] theorem delayFor_package (n : Nat) (s : State) : (delayFor n s).package = s.package := rfl
@[simp] theorem delayFor_symbolsSent (n : Nat) (s : State) : (delayFor n s).symbolsSent = s.symbolsSent := rfl
@[simp] theorem delayFor_retryCount (n : Nat) (s : State) : (delayFor n s).retryCount = s.retryCount := rfl
@[simp] theorem delayFor_state (n : Nat) (s : State) : (delayFor n s).state = s.state := rfl
@[simp] theorem delayFor_packet (n : Nat) (s : State) : (delayFor n s).packet = s.packet := rfl
@[simp] theorem delayFor_cause (n : Nat) (s : State) : (delayFor n s).cause = s.cause := rfl
@[simp] theorem delayFor_phase (n : Nat) (s : State) : (delayFor n s).phase = s.phase := rfl
@[simp] theorem delayFor_outHold (n : Nat) (s : State) : (delayFor n s).outHold = s.outHold := rfl
@[simp] theorem delayFor_out (n : Nat) (s : State) : (delayFor n s).out = s.out := rfl
@[simp] theorem delayFor_dir (n : Nat) (s : State) : (delayFor n s).dir = s.dir := rfl
@[simp] theorem delayFor_inAnswers (n : Nat) (s : State) : (delayFor n s).inAnswers = s.inAnswers := rfl
@[simp] theorem delayFor_inReads (n : Nat) (s : State) : (delayFor n s).inReads = s.inReads := rfl
@[simp] theorem delayFor_source (n : Nat) (s : State) : (delayFor n s).source = s.source := rfl
@[simp] theorem delayFor_endless (n : Nat) (s : State) : (delayFor n s).endless = s.endless := rfl
@[simp] theorem delayFor_taken (n : Nat) (s : State) : (delayFor n s).taken = s.taken := rfl
@[simp] theorem delayFor_trace (n : Nat) (s : State) : (delayFor n s).trace = .dly n :: s.trace := rfl
@[simp] theorem delayFor_answer (n : Nat) (s : State) : (delayFor n s).answer = s.answer := rfl
@[simp] theorem delayFor_requests (n : Nat) (s : State) : (delayFor n s).requests = s.requests := rfl

@[simp] theorem configureDir_cfg (m : Byte) (s : State) : (configureDir m s).cfg = s.cfg := rfl
@[simp] theorem configureDir_checksum (m : Byte) (s : State) : (configureDir m s).checksum = s.checksum := rfl
@[simp] theorem configureDir_package (m : Byte) (s : State) : (configureDir m s).package = s.package := rfl
@[simp] theorem configureDir_symbolsSent (m : Byte) (s : State) : (configureDir m s).symbolsSent = s.symbolsSent := rfl
@[simp] theorem configureDir_retryCount (m : Byte) (s : State) : (configureDir m s).retryCount = s.retryCount := rfl
@[simp] theorem configureDir_state (m : Byte) (s : State) : (configureDir m s).state = s.state := rfl
@[simp] theorem configureDir_packet (m : Byte) (s : State) : (configureDir m s).packet = s.packet := rfl
@[simp] theorem configureDir_cause (m : Byte) (s : State) : (configureDir m s).cause = s.cause := rfl
@[simp] theorem configureDir_phase (m : Byte) (s : State) : (configureDir m s).phase = s.phase := rfl
@[simp] theorem configureDir_outHold (m : Byte) (s : State) : (configureDir m s).outHold = s.outHold := rfl
@[simp] theorem configureDir_out (m : Byte) (s : State) : (configureDir m s).out = s.out := rfl
@[simp] theorem configureDir_dir (m : Byte) (s : State) : (configureDir m s).dir = m := rfl
@[simp] theorem configureDir_inAnswers (m : Byte) (s : State) : (configureDir m s).inAnswers = s.inAnswers := rfl
@[simp] theorem configureDir_inReads (m : Byte) (s : State) : (configureDir m s).inReads = s.inReads := rfl
@[simp] theorem configureDir_source (m : Byte) (s : State) : (configureDir m s).source = s.source := rfl
@[simp] theorem configureDir_endless (m : Byte) (s : State) : (configureDir m s).endless = s.endless := rfl
@[simp] theorem configureDir_taken (m : Byte) (s : State) : (configureDir m s).taken = s.taken := rfl
@[simp] theorem configureDir_trace (m : Byte) (s : State) : (configureDir m s).trace = .cfg m :: s.trace := rfl
@[simp] theorem configureDir_answer (m : Byte) (s : State) : (configureDir m s).answer = s.answer := rfl
@[simp] theorem configureDir_requests (m : Byte) (s : State) : (configureDir m s).requests = s.requests := rfl

@[simp] theorem answerWith_cfg (a : Answer) (s : State) : (answerWith a s).cfg = s.cfg := rfl
@[simp] theorem answerWith_checksum (a : Answer) (s : State) : (answerWith a s).checksum = s.checksum := rfl
@[simp] theorem answerWith_package (a : Answer) (s : State) : (answerWith a s).package = s.package := rfl
@[simp] theorem answerWith_symbolsSent (a : Answer) (s : State) : (answerWith a s).symbolsSent = s.symbolsSent := rfl
@[simp] theorem answerWith_retryCount (a : Answer) (s : State) : (answerWith a s).retryCount = s.retryCount := rfl
@[simp] theorem answerWith_state (a : Answer) (s : State) : (answerWith a s).state = s.state := rfl
@[simp] theorem answerWith_packet (a : Answer) (s : State) : (answerWith a s).packet = s.packet := rfl
@[simp] theorem answerWith_cause (a : Answer) (s : State) : (answerWith a s).cause = s.cause := rfl
@[simp] theorem answerWith_phase (a : Answer) (s : State) : (answerWith a s).phase = s.phase := rfl
@[simp] theorem answerWith_outHold (a : Answer) (s : State) : (answerWith a s).outHold = s.outHold := rfl
@[simp] theorem answerWith_out (a : Answer) (s : State) : (answerWith a s).out = s.out := rfl
@[simp] theorem answerWith_dir (a : Answer) (s : State) : (answerWith a s).dir = s.dir := rfl
@[simp] theorem answerWith_inAnswers (a : Answer) (s : State) : (answerWith a s).inAnswers = s.inAnswers := rfl
@[simp] theorem answerWith_inReads (a : Answer) (s : State) : (answerWith a s).inReads = s.inReads := rfl
@[simp] theorem answerWith_source (a : Answer) (s : State) : (answerWith a s).source = s.source := rfl
@[simp] theorem answerWith_endless (a : Answer) (s : State) : (answerWith a s).endless = s.endless := rfl
@[simp] theorem answerWith_taken (a : Answer) (s : State) : (answerWith a s).taken = s.taken := rfl
@[simp] theorem answerWith_trace (a : Answer) (s : State) : (answerWith a s).trace = s.trace := rfl
@[simp] theorem answerWith_answer (a : Answer) (s : State) : (answerWith a s).answer = a := rfl
@[simp] theorem answerWith_requests (a : Answer) (s : State) : (answerWith a s).requests = s.requests := rfl

@[simp] theorem readOut_snd_cfg (s : State) : (readOut s).2.cfg = s.cfg := rfl
@[simp] theorem readOut_snd_checksum (s : State) : (readOut s).2.checksum = s.checksum := rfl
@[simp] theorem readOut_snd_package (s : State) : (readOut s).2.package = s.package := rfl
@[simp] theorem readOut_snd_symbolsSent (s : State) : (readOut s).2.symbolsSent = s.symbolsSent := rfl
@[simp] theorem readOut_snd_retryCount (s : State) : (readOut s).2.retryCount = s.retryCount := rfl
@[simp] theorem readOut_snd_state (s : State) : (readOut s).2.state = s.state := rfl
@[simp] theorem readOut_snd_packet (s : State) : (readOut s).2.packet = s.packet := rfl
@[simp] theorem readOut_snd_cause (s : State) : (readOut s).2.cause = s.cause := rfl
@[simp] theorem readOut_snd_phase (s : State) : (readOut s).2.phase = s.phase := rfl
@[simp] theorem readOut_snd_outHold (s : State) : (readOut s).2.outHold = s.outHold := rfl
@[simp] theorem readOut_snd_out (s : State) : (readOut s).2.out = s.out := rfl
@[simp] theorem readOut_snd_dir (s : State) : (readOut s).2.dir = s.dir := rfl
@[simp] theorem readOut_snd_inAnswers (s : State) : (readOut s).2.inAnswers = s.inAnswers := rfl
@[simp] theorem readOut_snd_inReads (s : State) : (readOut s).2.inReads = s.inReads := rfl
@[simp] theorem readOut_snd_source (s : State) : (readOut s).2.source = s.source := rfl
@[simp] theorem readOut_snd_endless (s : State) : (readOut s).2.endless = s.endless := rfl
@[simp] theorem readOut_snd_taken (s : State) : (readOut s).2.taken = s.taken := rfl
@[simp] theorem readOut_snd_trace (s : State) : (readOut s).2.trace = .ro s.out :: s.trace := rfl
@[simp] theorem readOut_snd_answer (s : State) : (readOut s).2.answer = s.answer := rfl
@[simp] theorem readOut_snd_requests (s : State) : (readOut s).2.requests = s.requests := rfl

@[simp] theorem readOut_fst (s : State) : (readOut s).1 = s.out := rfl

@[simp] theorem countRetry_cfg (s : State) : (countRetry s).cfg = s.cfg := rfl
@[simp] theorem countRetry_checksum (s : State) : (countRetry s).checksum = s.checksum := rfl
@[simp] theorem countRetry_package (s : State) : (countRetry s).package = s.package := rfl
@[simp] theorem countRetry_symbolsSent (s : State) : (countRetry s).symbolsSent = s.symbolsSent := rfl
@[simp] theorem countRetry_retryCount (s : State) :
    (countRetry s).retryCount = min (s.retryCount + 1) (s.cfg.maxRetry + 1) := rfl
@[simp] theorem countRetry_state (s : State) : (countRetry s).state = s.state := rfl
@[simp] theorem countRetry_packet (s : State) : (countRetry s).packet = s.packet := rfl
@[simp] theorem countRetry_cause (s : State) : (countRetry s).cause = s.cause := rfl
@[simp] theorem countRetry_phase (s : State) : (countRetry s).phase = s.phase := rfl
@[simp] theorem countRetry_outHold (s : State) : (countRetry s).outHold = s.outHold := rfl
@[simp] theorem countRetry_out (s : State) : (countRetry s).out = s.out := rfl
@[simp] theorem countRetry_dir (s : State) : (countRetry s).dir = s.dir := rfl
@[simp] theorem countRetry_inAnswers (s : State) : (countRetry s).inAnswers = s.inAnswers := rfl
@[simp] theorem countRetry_inReads (s : State) : (countRetry s).inReads = s.inReads := rfl
@[simp] theorem countRetry_source (s : State) : (countRetry s).source = s.source := rfl
@[simp] theorem countRetry_endless (s : State) : (countRetry s).endless = s.endless := rfl
@[simp] theorem countRetry_taken (s : State) : (countRetry s).taken = s.taken := rfl
@[simp] theorem countRetry_trace (s : State) : (countRetry s).trace = s.trace := rfl
@[simp] theorem countRetry_answer (s : State) : (countRetry s).answer = s.answer := rfl
@[simp] theorem countRetry_requests (s : State) : (countRetry s).requests = s.requests := rfl

/-- Below the register's top value `retryCount` counts exactly (10_state R25). -/
theorem countRetry_eq (s : State) (h : s.retryCount + 1 ≤ s.cfg.maxRetry + 1) :
    countRetry s = { s with retryCount := s.retryCount + 1, retryBounded := h } := by
  simp [countRetry, Nat.min_eq_left h]

/-- From `MAX_RETRY` up the register holds `MAX_RETRY` + 1 afterwards (10_state R25). -/
theorem countRetry_top (s : State) (h : s.cfg.maxRetry ≤ s.retryCount) :
    countRetry s = { s with retryCount := s.cfg.maxRetry + 1, retryBounded := Nat.le_refl _ } := by
  simp [countRetry, Nat.min_eq_right (Nat.succ_le_succ h)]

/-! A read of `IN` and a call of the byte source have two cases each; what neither changes is said once. -/

@[simp] theorem readIn_snd_cfg (s : State) : (readIn s).2.cfg = s.cfg := by unfold readIn; split <;> rfl
@[simp] theorem readIn_snd_checksum (s : State) : (readIn s).2.checksum = s.checksum := by unfold readIn; split <;> rfl
@[simp] theorem readIn_snd_package (s : State) : (readIn s).2.package = s.package := by unfold readIn; split <;> rfl
@[simp] theorem readIn_snd_symbolsSent (s : State) : (readIn s).2.symbolsSent = s.symbolsSent := by unfold readIn; split <;> rfl
@[simp] theorem readIn_snd_retryCount (s : State) : (readIn s).2.retryCount = s.retryCount := by unfold readIn; split <;> rfl
@[simp] theorem readIn_snd_state (s : State) : (readIn s).2.state = s.state := by unfold readIn; split <;> rfl
@[simp] theorem readIn_snd_packet (s : State) : (readIn s).2.packet = s.packet := by unfold readIn; split <;> rfl
@[simp] theorem readIn_snd_cause (s : State) : (readIn s).2.cause = s.cause := by unfold readIn; split <;> rfl
@[simp] theorem readIn_snd_phase (s : State) : (readIn s).2.phase = s.phase := by unfold readIn; split <;> rfl
@[simp] theorem readIn_snd_outHold (s : State) : (readIn s).2.outHold = s.outHold := by unfold readIn; split <;> rfl
@[simp] theorem readIn_snd_out (s : State) : (readIn s).2.out = s.out := by unfold readIn; split <;> rfl
@[simp] theorem readIn_snd_dir (s : State) : (readIn s).2.dir = s.dir := by unfold readIn; split <;> rfl
@[simp] theorem readIn_snd_source (s : State) : (readIn s).2.source = s.source := by unfold readIn; split <;> rfl
@[simp] theorem readIn_snd_endless (s : State) : (readIn s).2.endless = s.endless := by unfold readIn; split <;> rfl
@[simp] theorem readIn_snd_taken (s : State) : (readIn s).2.taken = s.taken := by unfold readIn; split <;> rfl
@[simp] theorem readIn_snd_answer (s : State) : (readIn s).2.answer = s.answer := by unfold readIn; split <;> rfl
@[simp] theorem readIn_snd_requests (s : State) : (readIn s).2.requests = s.requests := by unfold readIn; split <;> rfl
@[simp] theorem readIn_snd_inReads (s : State) : (readIn s).2.inReads = s.inReads + 1 := by unfold readIn; split <;> rfl
@[simp] theorem readIn_snd_inAnswers (s : State) : (readIn s).2.inAnswers = s.inAnswers.tail := by
  unfold readIn; split <;> simp_all
@[simp] theorem readIn_snd_trace (s : State) : (readIn s).2.trace = .ri (readIn s).1 :: s.trace := by
  unfold readIn; split <;> rfl

@[simp] theorem takeByte_snd_cfg (s : State) : (takeByte s).2.cfg = s.cfg := by
  unfold takeByte; split <;> [rfl; (split <;> rfl)]
@[simp] theorem takeByte_snd_checksum (s : State) : (takeByte s).2.checksum = s.checksum := by
  unfold takeByte; split <;> [rfl; (split <;> rfl)]
@[simp] theorem takeByte_snd_package (s : State) : (takeByte s).2.package = s.package := by
  unfold takeByte; split <;> [rfl; (split <;> rfl)]
@[simp] theorem takeByte_snd_symbolsSent (s : State) : (takeByte s).2.symbolsSent = s.symbolsSent := by
  unfold takeByte; split <;> [rfl; (split <;> rfl)]
@[simp] theorem takeByte_snd_retryCount (s : State) : (takeByte s).2.retryCount = s.retryCount := by
  unfold takeByte; split <;> [rfl; (split <;> rfl)]
@[simp] theorem takeByte_snd_state (s : State) : (takeByte s).2.state = s.state := by
  unfold takeByte; split <;> [rfl; (split <;> rfl)]
@[simp] theorem takeByte_snd_packet (s : State) : (takeByte s).2.packet = s.packet := by
  unfold takeByte; split <;> [rfl; (split <;> rfl)]
@[simp] theorem takeByte_snd_cause (s : State) : (takeByte s).2.cause = s.cause := by
  unfold takeByte; split <;> [rfl; (split <;> rfl)]
@[simp] theorem takeByte_snd_phase (s : State) : (takeByte s).2.phase = s.phase := by
  unfold takeByte; split <;> [rfl; (split <;> rfl)]
@[simp] theorem takeByte_snd_outHold (s : State) : (takeByte s).2.outHold = s.outHold := by
  unfold takeByte; split <;> [rfl; (split <;> rfl)]
@[simp] theorem takeByte_snd_out (s : State) : (takeByte s).2.out = s.out := by
  unfold takeByte; split <;> [rfl; (split <;> rfl)]
@[simp] theorem takeByte_snd_dir (s : State) : (takeByte s).2.dir = s.dir := by
  unfold takeByte; split <;> [rfl; (split <;> rfl)]
@[simp] theorem takeByte_snd_inAnswers (s : State) : (takeByte s).2.inAnswers = s.inAnswers := by
  unfold takeByte; split <;> [rfl; (split <;> rfl)]
@[simp] theorem takeByte_snd_inReads (s : State) : (takeByte s).2.inReads = s.inReads := by
  unfold takeByte; split <;> [rfl; (split <;> rfl)]
@[simp] theorem takeByte_snd_endless (s : State) : (takeByte s).2.endless = s.endless := by
  unfold takeByte; split <;> [rfl; (split <;> rfl)]
@[simp] theorem takeByte_snd_answer (s : State) : (takeByte s).2.answer = s.answer := by
  unfold takeByte; split <;> [rfl; (split <;> rfl)]
@[simp] theorem takeByte_snd_requests (s : State) : (takeByte s).2.requests = s.requests := by
  unfold takeByte; split <;> [rfl; (split <;> rfl)]
@[simp] theorem takeByte_snd_trace (s : State) : (takeByte s).2.trace = .nb (takeByte s).1 :: s.trace := by
  unfold takeByte; split <;> [rfl; (split <;> rfl)]

end Sys2Proof.Machine
end

