-- ==== Sys2Proof/Laws/Ops.lean ====
section
/-! SUPPORT. What each shared operation does, said once: a symbol sent, a group sent, a cleanup, and when a step of the phase
machine or a transition answers a next state. -/

namespace Sys2Proof.Machine

/-- A step of the phase machine answers a next state exactly where it is enabled, and that state is its effect. -/
theorem performStep_next {p : Phase} {s t u : State} :
    performStep p s t = .next u ↔ stepEnabled p s = true ∧ u = t := by
  unfold performStep
  split <;> simp [*, eq_comm (a := t)]

/-- An event no transition applies to is absorbed exactly in a terminal state, by the cleanup (44_retry_controller R131). -/
theorem absorb_next {ev : Event} {s u : State} :
    absorb ev s = .next u ↔ terminal s.state = true ∧ u = finishCleanup s := by
  unfold absorb
  split <;> simp [*, eq_comm]

/-- Outside a terminal state it has no next state. -/
theorem absorb_refused {ev : Event} {s : State} (h : terminal s.state = false) :
    absorb ev s = .refused (.eventCannotOccur s.state ev) := by
  simp [absorb, h]

/-- A transition answers a next state exactly where its event can occur in its state, and then that state is its effect, and
where a terminal state absorbs it. -/
theorem transit_next {st : CtrlState} {ev : Event} {s t u : State} :
    transit st ev s t = .next u ↔
      ((s.state = st ∧ eventOccurs ev s = true) ∧ u = t) ∨
      (¬(s.state = st ∧ eventOccurs ev s = true) ∧ terminal s.state = true ∧ u = finishCleanup s) := by
  unfold transit
  split <;> simp [*, absorb_next, eq_comm (a := t)]

/-- A row of another state is absorbed or refused, whatever its event. -/
theorem transit_elsewhere {st : CtrlState} {ev : Event} {s t : State} (h : s.state ≠ st) :
    transit st ev s t = absorb ev s := by
  simp [transit, h]

/-- An enabled step stands in its phase, and its requirement holds. -/
theorem stepEnabled_iff {p : Phase} {s : State} : stepEnabled p s = true ↔ s.phase = p ∧ phaseAllows p s = true := by
  simp [stepEnabled]

/-- Beginning a group (44_retry_controller R136). -/
theorem beginPacket_eq (b : Byte) (s : State) :
    beginPacket b s =
      { s with checksum := s.checksum + b, packet := packetOf b (s.checksum + b), phase := .symRead } := rfl

/-- One symbol of a group, as one update (44_retry_controller R137 to R140). -/
theorem sendOne_eq (s : State) :
    sendOne s =
      { s with
          package := packageAfterRead s, symbolsSent := countUp s.symbolsSent,
          out := strobeLow s.cfg (strobeHigh s.cfg s.out (dueSymbol s)),
          outHold := strobeLow s.cfg (strobeHigh s.cfg s.out (dueSymbol s)),
          trace := .wo (strobeLow s.cfg (strobeHigh s.cfg s.out (dueSymbol s))) :: .dly s.cfg.dataSettle ::
            .wo (strobeHigh s.cfg s.out (dueSymbol s)) :: .ro s.out :: s.trace,
          phase := if (countUp s.symbolsSent).val = 16 then .pollFirst else .symRead } := by
  simp only [sendOne, symLow, symHold, symHigh, symRead, loadStrobe, dropStrobe, writeOut, delayFor, emit, readOut]
  rfl

/-- A group grows at its end. -/
theorem sendSymbols_succ (n : Nat) (s : State) : sendSymbols (n + 1) s = sendOne (sendSymbols n s) := by
  induction n generalizing s with
  | zero => rfl
  | succ n ih => rw [sendSymbols, ih]; rfl

/-! What no symbol of a group changes. -/

@[simp] theorem sendSymbols_cfg (n : Nat) (s : State) : (sendSymbols n s).cfg = s.cfg := by
  induction n with
  | zero => rfl
  | succ n ih => rw [sendSymbols_succ, sendOne_eq, ih]
@[simp] theorem sendSymbols_checksum (n : Nat) (s : State) : (sendSymbols n s).checksum = s.checksum := by
  induction n with
  | zero => rfl
  | succ n ih => rw [sendSymbols_succ, sendOne_eq, ih]
@[simp] theorem sendSymbols_retryCount (n : Nat) (s : State) : (sendSymbols n s).retryCount = s.retryCount := by
  induction n with
  | zero => rfl
  | succ n ih => rw [sendSymbols_succ, sendOne_eq, ih]
@[simp] theorem sendSymbols_state (n : Nat) (s : State) : (sendSymbols n s).state = s.state := by
  induction n with
  | zero => rfl
  | succ n ih => rw [sendSymbols_succ, sendOne_eq, ih]
@[simp] theorem sendSymbols_packet (n : Nat) (s : State) : (sendSymbols n s).packet = s.packet := by
  induction n with
  | zero => rfl
  | succ n ih => rw [sendSymbols_succ, sendOne_eq, ih]
@[simp] theorem sendSymbols_cause (n : Nat) (s : State) : (sendSymbols n s).cause = s.cause := by
  induction n with
  | zero => rfl
  | succ n ih => rw [sendSymbols_succ, sendOne_eq, ih]
@[simp] theorem sendSymbols_dir (n : Nat) (s : State) : (sendSymbols n s).dir = s.dir := by
  induction n with
  | zero => rfl
  | succ n ih => rw [sendSymbols_succ, sendOne_eq, ih]
@[simp] theorem sendSymbols_inAnswers (n : Nat) (s : State) : (sendSymbols n s).inAnswers = s.inAnswers := by
  induction n with
  | zero => rfl
  | succ n ih => rw [sendSymbols_succ, sendOne_eq, ih]
@[simp] theorem sendSymbols_inReads (n : Nat) (s : State) : (sendSymbols n s).inReads = s.inReads := by
  induction n with
  | zero => rfl
  | succ n ih => rw [sendSymbols_succ, sendOne_eq, ih]
@[simp] theorem sendSymbols_source (n : Nat) (s : State) : (sendSymbols n s).source = s.source := by
  induction n with
  | zero => rfl
  | succ n ih => rw [sendSymbols_succ, sendOne_eq, ih]
@[simp] theorem sendSymbols_endless (n : Nat) (s : State) : (sendSymbols n s).endless = s.endless := by
  induction n with
  | zero => rfl
  | succ n ih => rw [sendSymbols_succ, sendOne_eq, ih]
@[simp] theorem sendSymbols_taken (n : Nat) (s : State) : (sendSymbols n s).taken = s.taken := by
  induction n with
  | zero => rfl
  | succ n ih => rw [sendSymbols_succ, sendOne_eq, ih]
@[simp] theorem sendSymbols_answer (n : Nat) (s : State) : (sendSymbols n s).answer = s.answer := by
  induction n with
  | zero => rfl
  | succ n ih => rw [sendSymbols_succ, sendOne_eq, ih]
@[simp] theorem sendSymbols_requests (n : Nat) (s : State) : (sendSymbols n s).requests = s.requests := by
  induction n with
  | zero => rfl
  | succ n ih => rw [sendSymbols_succ, sendOne_eq, ih]

@[simp] theorem sendGroup_cfg (s : State) : (sendGroup s).cfg = s.cfg := sendSymbols_cfg 16 s
@[simp] theorem sendGroup_checksum (s : State) : (sendGroup s).checksum = s.checksum := sendSymbols_checksum 16 s
@[simp] theorem sendGroup_retryCount (s : State) : (sendGroup s).retryCount = s.retryCount := sendSymbols_retryCount 16 s
@[simp] theorem sendGroup_state (s : State) : (sendGroup s).state = s.state := sendSymbols_state 16 s
@[simp] theorem sendGroup_packet (s : State) : (sendGroup s).packet = s.packet := sendSymbols_packet 16 s
@[simp] theorem sendGroup_cause (s : State) : (sendGroup s).cause = s.cause := sendSymbols_cause 16 s
@[simp] theorem sendGroup_dir (s : State) : (sendGroup s).dir = s.dir := sendSymbols_dir 16 s
@[simp] theorem sendGroup_inAnswers (s : State) : (sendGroup s).inAnswers = s.inAnswers := sendSymbols_inAnswers 16 s
@[simp] theorem sendGroup_inReads (s : State) : (sendGroup s).inReads = s.inReads := sendSymbols_inReads 16 s
@[simp] theorem sendGroup_source (s : State) : (sendGroup s).source = s.source := sendSymbols_source 16 s
@[simp] theorem sendGroup_endless (s : State) : (sendGroup s).endless = s.endless := sendSymbols_endless 16 s
@[simp] theorem sendGroup_taken (s : State) : (sendGroup s).taken = s.taken := sendSymbols_taken 16 s
@[simp] theorem sendGroup_answer (s : State) : (sendGroup s).answer = s.answer := sendSymbols_answer 16 s
@[simp] theorem sendGroup_requests (s : State) : (sendGroup s).requests = s.requests := sendSymbols_requests 16 s

/-- The cleanup changes the lines, `outHold` and the trace, and halts (44_retry_controller R131). -/
theorem finishCleanup_eq (s : State) :
    finishCleanup s =
      { s with out := (finishCleanup s).out, outHold := (finishCleanup s).outHold, trace := (finishCleanup s).trace, phase := .halt } := by
  unfold finishCleanup
  cases h : s.phase <;> simp [idle, loadIdle, readOut, writeOut, emit]
  rw [← h]

/-! A poll changes what `IN` has left to answer, the count of its reads and the trace (43_response_monitor R110). -/

@[simp] theorem pollResponse_snd_package (s : State) : (pollResponse s).2.package = s.package := by
  unfold pollResponse; simp only; split <;> simp
@[simp] theorem pollResponse_snd_symbolsSent (s : State) : (pollResponse s).2.symbolsSent = s.symbolsSent := by
  unfold pollResponse; simp only; split <;> simp
@[simp] theorem pollResponse_snd_phase (s : State) : (pollResponse s).2.phase = s.phase := by
  unfold pollResponse; simp only; split <;> simp
@[simp] theorem pollResponse_snd_outHold (s : State) : (pollResponse s).2.outHold = s.outHold := by
  unfold pollResponse; simp only; split <;> simp
@[simp] theorem pollResponse_snd_out (s : State) : (pollResponse s).2.out = s.out := by
  unfold pollResponse; simp only; split <;> simp
@[simp] theorem pollResponse_snd_cfg (s : State) : (pollResponse s).2.cfg = s.cfg := by
  unfold pollResponse; simp only; split <;> simp
@[simp] theorem pollResponse_snd_checksum (s : State) : (pollResponse s).2.checksum = s.checksum := by
  unfold pollResponse; simp only; split <;> simp
@[simp] theorem pollResponse_snd_retryCount (s : State) : (pollResponse s).2.retryCount = s.retryCount := by
  unfold pollResponse; simp only; split <;> simp
@[simp] theorem pollResponse_snd_state (s : State) : (pollResponse s).2.state = s.state := by
  unfold pollResponse; simp only; split <;> simp
@[simp] theorem pollResponse_snd_packet (s : State) : (pollResponse s).2.packet = s.packet := by
  unfold pollResponse; simp only; split <;> simp
@[simp] theorem pollResponse_snd_cause (s : State) : (pollResponse s).2.cause = s.cause := by
  unfold pollResponse; simp only; split <;> simp
@[simp] theorem pollResponse_snd_dir (s : State) : (pollResponse s).2.dir = s.dir := by
  unfold pollResponse; simp only; split <;> simp
@[simp] theorem pollResponse_snd_source (s : State) : (pollResponse s).2.source = s.source := by
  unfold pollResponse; simp only; split <;> simp
@[simp] theorem pollResponse_snd_endless (s : State) : (pollResponse s).2.endless = s.endless := by
  unfold pollResponse; simp only; split <;> simp
@[simp] theorem pollResponse_snd_taken (s : State) : (pollResponse s).2.taken = s.taken := by
  unfold pollResponse; simp only; split <;> simp
@[simp] theorem pollResponse_snd_answer (s : State) : (pollResponse s).2.answer = s.answer := by
  unfold pollResponse; simp only; split <;> simp
@[simp] theorem pollResponse_snd_requests (s : State) : (pollResponse s).2.requests = s.requests := by
  unfold pollResponse; simp only; split <;> simp

end Sys2Proof.Machine
end

