-- ==== Sys2Proof/Laws/Group.lean ====
section
/-! SUPPORT. A group of symbols as one update (44_retry_controller R122, R126): first attempt and replay. -/

namespace Sys2Proof.Machine

/-- Counting the `n`-th symbol. -/
theorem countUp_ofNat (n : Nat) (h : n < 16) : countUp (Fin.ofNat 17 n) = Fin.ofNat 17 (n + 1) := by
  have hn : (Fin.ofNat 17 n).val = n := by simp [Fin.ofNat]; omega
  apply Fin.ext
  rw [countUp_val _ (by omega), hn]
  simp [Fin.ofNat]
  omega

/-- The symbol due after `n` symbols. -/
theorem dueIndex_ofNat (n : Nat) (h : n < 16) : dueIndex (Fin.ofNat 17 n) = Fin.ofNat 16 n := by
  have hn : (Fin.ofNat 17 n).val = n := by simp [Fin.ofNat]; omega
  unfold dueIndex
  rw [hn]

/-- The first `n` symbols of a first attempt: `package` packs them, the lines carry them, the trace is their part of
`GROUP(packet)`. -/
theorem sendSymbols_attempt (s : State) (hs : s.state = .sendingNew) (h0 : s.symbolsSent = 0) (n : Nat) (h : n < 16) :
    sendSymbols (n + 1) s =
      { s with
          package := packedOnto s.package s.packet (n + 1), symbolsSent := Fin.ofNat 17 (n + 1),
          out := outAfter s.cfg s.packet s.out (n + 1), outHold := outAfter s.cfg s.packet s.out (n + 1),
          trace := groupTrace s.cfg s.packet s.out (n + 1) ++ s.trace,
          phase := if n + 1 = 16 then .pollFirst else .symRead } := by
  induction n with
  | zero =>
    have hp := packedOnto_succ s.package s.packet 0
    have h32 : s.packet >>> 32 = 0#32 := BitVec.ushiftRight_eq_zero (by omega)
    rw [sendSymbols, sendSymbols, sendOne_eq]
    simp [packageAfterRead, dueSymbol, hs, h0, symbolOfPacket_eq_extractSymbol, groupTrace, outAfter, dueIndex, countUp,
      symbolTrace]
    constructor
    · simpa [packedOnto, h32] using hp
    · rfl
  | succ n ih =>
    have hi := packedOnto_succ s.package s.packet (Fin.ofNat 16 (n + 1))
    rw [show (Fin.ofNat 16 (n + 1)).val = n + 1 from Nat.mod_eq_of_lt h] at hi
    have hv : (Fin.ofNat 17 (n + 1 + 1)).val = n + 1 + 1 := Nat.mod_eq_of_lt (by omega)
    rw [sendSymbols_succ, ih (by omega), sendOne_eq]
    simp only [packageAfterRead, dueSymbol, hs, symbolOfPacket_eq_extractSymbol, countUp_ofNat _ h, dueIndex_ofNat _ h, hv,
      hi, groupTrace, outAfter, symbolTrace, List.cons_append, List.nil_append]

/-- The first `n` symbols of a replay: they come from `package`, which stays. -/
theorem sendSymbols_replay (s : State) (hs : s.state = .retransmitting) (h0 : s.symbolsSent = 0) (n : Nat) (h : n < 16) :
    sendSymbols (n + 1) s =
      { s with
          symbolsSent := Fin.ofNat 17 (n + 1),
          out := outAfter s.cfg s.package s.out (n + 1), outHold := outAfter s.cfg s.package s.out (n + 1),
          trace := groupTrace s.cfg s.package s.out (n + 1) ++ s.trace,
          phase := if n + 1 = 16 then .pollFirst else .symRead } := by
  induction n with
  | zero =>
    rw [sendSymbols, sendSymbols, sendOne_eq]
    simp [packageAfterRead, dueSymbol, hs, h0, groupTrace, outAfter, dueIndex, countUp, symbolTrace]
    rfl
  | succ n ih =>
    have hv : (Fin.ofNat 17 (n + 1 + 1)).val = n + 1 + 1 := Nat.mod_eq_of_lt (by omega)
    rw [sendSymbols_succ, ih (by omega), sendOne_eq]
    simp only [packageAfterRead, dueSymbol, hs, countUp_ofNat _ h, dueIndex_ofNat _ h, hv, groupTrace, outAfter,
      symbolTrace, List.cons_append, List.nil_append]

/-- A whole first attempt, as one update: the poll is due, and `package` holds the packet (10_state R23). -/
theorem sendGroup_attempt (s : State) (hs : s.state = .sendingNew) (h0 : s.symbolsSent = 0) :
    sendGroup s =
      { s with
          package := s.packet, symbolsSent := 16, out := outAfter s.cfg s.packet s.out 16,
          outHold := outAfter s.cfg s.packet s.out 16, trace := groupTrace s.cfg s.packet s.out 16 ++ s.trace,
          phase := .pollFirst } := by
  have h := sendSymbols_attempt s hs h0 15 (by omega)
  rw [packedOnto_all] at h
  exact h

/-- A whole replay, as one update. -/
theorem sendGroup_replay (s : State) (hs : s.state = .retransmitting) (h0 : s.symbolsSent = 0) :
    sendGroup s =
      { s with
          symbolsSent := 16, out := outAfter s.cfg s.package s.out 16, outHold := outAfter s.cfg s.package s.out 16,
          trace := groupTrace s.cfg s.package s.out 16 ++ s.trace, phase := .pollFirst } :=
  sendSymbols_replay s hs h0 15 (by omega)

end Sys2Proof.Machine
end

