-- ==== Sys2Proof/Laws/PerInstr.lean ====
section
/-! SUPPORT. Per instruction, over its encoding alone: an operation word is six bytes and begins with the code of its
operation (assumption 5). -/

namespace Sys2Proof.Laws

/-- The form of the operation word of one instruction. -/
def EncodeForm.Statement (i : Instr) : Prop :=
  (encode i).length = 6 ∧ (encode i).head? = some i.parts.1.code

theorem EncodeForm.splitByte (b : Byte) : EncodeForm.Statement (.splitByte b) := ⟨rfl, rfl⟩
theorem EncodeForm.joinSymbols (s0 s1 s2 s3 : Symbol) : EncodeForm.Statement (.joinSymbols s0 s1 s2 s3) := ⟨rfl, rfl⟩
theorem EncodeForm.packSymbol (p : Word) (t : Symbol) : EncodeForm.Statement (.packSymbol p t) := ⟨rfl, rfl⟩
theorem EncodeForm.extractSymbol (p : Word) (index : Fin 16) : EncodeForm.Statement (.extractSymbol p index) := ⟨rfl, rfl⟩
theorem EncodeForm.symbolOfPacket (w : Word) (index : Fin 16) : EncodeForm.Statement (.symbolOfPacket w index) := ⟨rfl, rfl⟩
theorem EncodeForm.parseBitPair00 : EncodeForm.Statement (.parseBitPair00) := ⟨rfl, rfl⟩
theorem EncodeForm.parseBitPair01 : EncodeForm.Statement (.parseBitPair01) := ⟨rfl, rfl⟩
theorem EncodeForm.parseBitPair10 : EncodeForm.Statement (.parseBitPair10) := ⟨rfl, rfl⟩
theorem EncodeForm.parseBitPair11 : EncodeForm.Statement (.parseBitPair11) := ⟨rfl, rfl⟩
theorem EncodeForm.formatBitPair0 : EncodeForm.Statement (.formatBitPair0) := ⟨rfl, rfl⟩
theorem EncodeForm.formatBitPair1 : EncodeForm.Statement (.formatBitPair1) := ⟨rfl, rfl⟩
theorem EncodeForm.formatBitPair2 : EncodeForm.Statement (.formatBitPair2) := ⟨rfl, rfl⟩
theorem EncodeForm.formatBitPair3 : EncodeForm.Statement (.formatBitPair3) := ⟨rfl, rfl⟩
theorem EncodeForm.encode (payload : Byte) : EncodeForm.Statement (.encode payload) := ⟨rfl, rfl⟩
theorem EncodeForm.sendSymbolHigh (t : Symbol) : EncodeForm.Statement (.sendSymbolHigh t) := ⟨rfl, rfl⟩
theorem EncodeForm.sendSymbolLow : EncodeForm.Statement (.sendSymbolLow) := ⟨rfl, rfl⟩
theorem EncodeForm.idleLines : EncodeForm.Statement (.idleLines) := ⟨rfl, rfl⟩
theorem EncodeForm.sampleResponse : EncodeForm.Statement (.sampleResponse) := ⟨rfl, rfl⟩
theorem EncodeForm.pollTimeout : EncodeForm.Statement (.pollTimeout) := ⟨rfl, rfl⟩
theorem EncodeForm.pollNack : EncodeForm.Statement (.pollNack) := ⟨rfl, rfl⟩
theorem EncodeForm.pollAck : EncodeForm.Statement (.pollAck) := ⟨rfl, rfl⟩
theorem EncodeForm.snByte (b : Byte) : EncodeForm.Statement (.snByte b) := ⟨rfl, rfl⟩
theorem EncodeForm.snEos : EncodeForm.Statement (.snEos) := ⟨rfl, rfl⟩
theorem EncodeForm.snAck : EncodeForm.Statement (.snAck) := ⟨rfl, rfl⟩
theorem EncodeForm.snNack : EncodeForm.Statement (.snNack) := ⟨rfl, rfl⟩
theorem EncodeForm.snTimeout : EncodeForm.Statement (.snTimeout) := ⟨rfl, rfl⟩
theorem EncodeForm.snMalformed : EncodeForm.Statement (.snMalformed) := ⟨rfl, rfl⟩
theorem EncodeForm.rtBoundOk : EncodeForm.Statement (.rtBoundOk) := ⟨rfl, rfl⟩
theorem EncodeForm.rtBoundExceeded : EncodeForm.Statement (.rtBoundExceeded) := ⟨rfl, rfl⟩
theorem EncodeForm.rtAck : EncodeForm.Statement (.rtAck) := ⟨rfl, rfl⟩
theorem EncodeForm.rtNack : EncodeForm.Statement (.rtNack) := ⟨rfl, rfl⟩
theorem EncodeForm.rtTimeout : EncodeForm.Statement (.rtTimeout) := ⟨rfl, rfl⟩
theorem EncodeForm.doneAny (e : Event) : EncodeForm.Statement (.doneAny e) := ⟨rfl, rfl⟩
theorem EncodeForm.abortedAny (e : Event) : EncodeForm.Statement (.abortedAny e) := ⟨rfl, rfl⟩
theorem EncodeForm.stepInit : EncodeForm.Statement (.stepInit) := ⟨rfl, rfl⟩
theorem EncodeForm.stepFetch : EncodeForm.Statement (.stepFetch) := ⟨rfl, rfl⟩
theorem EncodeForm.stepSymRead : EncodeForm.Statement (.stepSymRead) := ⟨rfl, rfl⟩
theorem EncodeForm.stepSymHigh : EncodeForm.Statement (.stepSymHigh) := ⟨rfl, rfl⟩
theorem EncodeForm.stepSymHold : EncodeForm.Statement (.stepSymHold) := ⟨rfl, rfl⟩
theorem EncodeForm.stepSymLow : EncodeForm.Statement (.stepSymLow) := ⟨rfl, rfl⟩
theorem EncodeForm.stepPollFirst : EncodeForm.Statement (.stepPollFirst) := ⟨rfl, rfl⟩
theorem EncodeForm.stepPollSettle : EncodeForm.Statement (.stepPollSettle) := ⟨rfl, rfl⟩
theorem EncodeForm.stepPollSecond : EncodeForm.Statement (.stepPollSecond) := ⟨rfl, rfl⟩
theorem EncodeForm.stepRetryCheck : EncodeForm.Statement (.stepRetryCheck) := ⟨rfl, rfl⟩
theorem EncodeForm.stepCleanRead : EncodeForm.Statement (.stepCleanRead) := ⟨rfl, rfl⟩
theorem EncodeForm.stepCleanWrite : EncodeForm.Statement (.stepCleanWrite) := ⟨rfl, rfl⟩
theorem EncodeForm.stepHalt : EncodeForm.Statement (.stepHalt) := ⟨rfl, rfl⟩
theorem EncodeForm.readInputRegister : EncodeForm.Statement (.readInputRegister) := ⟨rfl, rfl⟩
theorem EncodeForm.readOutputRegister : EncodeForm.Statement (.readOutputRegister) := ⟨rfl, rfl⟩
theorem EncodeForm.writeOutputRegister (v : Byte) : EncodeForm.Statement (.writeOutputRegister v) := ⟨rfl, rfl⟩
theorem EncodeForm.configureDirection (m : Byte) : EncodeForm.Statement (.configureDirection m) := ⟨rfl, rfl⟩
theorem EncodeForm.delay (n : Nat) : EncodeForm.Statement (.delay n) := ⟨rfl, rfl⟩
theorem EncodeForm.nextByte : EncodeForm.Statement (.nextByte) := ⟨rfl, rfl⟩

end Sys2Proof.Laws
end

