-- ==== Sys2Proof/Laws/Requests.lean ====
section
/-! SUPPORT. The step by the kind of the request in front: one equation for each, so that no proof unfolds the step. -/

namespace Sys2Proof.Machine

/-- With nothing asked from outside the step is that of the phase (44_retry_controller R134). -/
theorem step_quiet {s : State} (h : s.requests = []) : step s = exec (phaseInstr s.phase) s := by
  simp [step, h]

/-- A line waits, and the machine performs the step of its phase, or it is served. -/
theorem step_line {s : State} {text : List Byte} {rest : List Request} (h : s.requests = .line text :: rest) :
    step s = if lineWaits s = true then exec (phaseInstr s.phase) s else serveLine text { s with requests := rest } := by
  rw [step, h]
  rfl

/-- A restart never waits. -/
theorem step_restart {s : State} {rest : List Request} (h : s.requests = .restart :: rest) :
    step s = .next (sessionRestart { s with requests := rest }) := by
  rw [step, h]
  rfl

/-- An operation word never waits. -/
theorem step_operation {s : State} {bytes : List Byte} {rest : List Request} (h : s.requests = .operation bytes :: rest) :
    step s = serve (.operation bytes) { s with requests := rest } := by
  rw [step, h]
  rfl

/-- The controller awaits a token in `SENDING_NEW` where one is due. -/
theorem tokenAwaited_iff {s : State} : tokenAwaited s = true ↔ s.state = .sendingNew ∧ tokenDue s = true := by
  simp [tokenAwaited]

/-- A malformed token never stops the machine: the error is returned, and where a token is awaited the session is aborted
(60_exceptions R161). -/
theorem rejectToken_eq (s : State) :
    rejectToken s =
      .next (if tokenAwaited s = true then takeAbort .malformedSymbolInput (answerWith .malformed s)
             else answerWith .malformed s) := by
  unfold rejectToken
  split
  · rename_i h
    obtain ⟨hs, hd⟩ := tokenAwaited_iff.1 h
    exact transit_next.2 (.inl ⟨⟨hs, hd⟩, rfl⟩)
  · rfl

/-- A line waits in `RETRANSMITTING`, and in `SENDING_NEW` where no token is due; nowhere else. -/
theorem lineWaits_iff {s : State} :
    lineWaits s = true ↔ s.state = .retransmitting ∨ (s.state = .sendingNew ∧ tokenDue s = false) := by
  unfold lineWaits
  cases h : s.state <;> simp [terminal, tokenAwaited, h]

end Sys2Proof.Machine
end

