-- ==== Sys2Proof/Tests/Slice0.lean ====
section
/-! SUPPORT. Tests of this model. Expected values: the vectors of 95_test_vectors (V-C to V-E, programs P1 to P8) and words
written out from the patterns of 30_encoding; each theorem names its source. After them, for every obligation with
hypotheses, a concrete state and operands that meet them all. -/

namespace Sys2Proof.Tests

open Sys2Proof Sys2Proof.Machine

/-- The state an outcome goes on in. -/
def after (o : Host.Outcome State Fault Refusal) : Option State :=
  match o with
  | .next s => some s
  | .fault _ => none
  | .refused _ => none

/-- A block just reset with `OUT = 0xF4`, one byte to send and an ACK laid out (30_encoding R79). -/
def base : State := State.load Config.reference 0xF4#8 [0x41#8] false [0x04#8, 0x04#8]

/-- About to fetch. -/
def atFetch : State := { base with phase := .fetch }

/-- Sending the packet of `0x41`, `k` symbols sent, in phase `p`. -/
def inGroup (p : Phase) (k : Fin 17) : State :=
  { base with phase := p, symbolsSent := k, checksum := 0x41#8, packet := 0x02414103#32,
              package := 0x02414103#32 >>> (32 - 2 * k.val), trace := [.nb (some 0x41#8)], source := [], taken := 1 }

/-- The same on retry `n`, up to the register's top value. -/
def inReplay (p : Phase) (k : Fin 17) (n : Fin 5) : State :=
  { inGroup p k with state := .retransmitting, retryCount := n.val, retryBounded := Nat.le_of_lt_succ n.isLt,
                     package := 0x02414103#32 }

/-- After the session has ended. -/
def atEnd (st : CtrlState) (p : Phase) : State :=
  { base with state := st, phase := p, out := 0x03#8, outHold := 0x00#8,
              cause := if st = .aborted then .linkTimeout else .none }

/-! ### WellFormed and the pin layout -/

theorem test_wf_refuses_delay_of_33_bits : (Instr.delay (2 ^ 32)).wf = false := by decide
theorem test_wf_admits_delay_of_32_bits : (Instr.delay (2 ^ 32 - 1)).wf = true := by decide
theorem test_pins_refuse_clock_on_data : pinsDisjoint 2 3 0 = false := by decide
theorem test_pins_refuse_response_on_data : pinsDisjoint 2 0 2 = false := by decide
theorem test_pins_admit_reference : pinsDisjoint 0 3 2 = true := by decide

/-! ### Decoding: a word written out from its pattern for every constructor -/

/-- 30_encoding R60 (`aabbccdd`), R62 (`sym16`: index 5 of `extractSymbol`, index 15 of `symbolOfPacket`), R82 (the row of
`packSymbol` holds the result `p << 2 | s`; the two bits shifted out, 0b11 here, come in the extra byte). -/
theorem test_decode_codec :
    decode [0#8, 0#8, 0#8, 0#8, 0b00011011#8, 0#8] = .ok (.splitByte 0x1B#8, []) ∧
    decode [1#8, 0#8, 0#8, 0#8, 0b00011011#8, 0#8] = .ok (.joinSymbols 0#2 1#2 2#2 3#2, []) ∧
    decode [2#8, 0b00000000#8, 0#8, 0#8, 0b00001001#8, 0b11#8] = .ok (.packSymbol 0xC0000002#32 1#2, []) ∧
    decode [3#8, 0x02#8, 0x41#8, 0x41#8, 0x03#8, 5#8] = .ok (.extractSymbol 0x02414103#32 5, []) ∧
    decode [4#8, 0x02#8, 0x41#8, 0x41#8, 0x03#8, 15#8] = .ok (.symbolOfPacket 0x02414103#32 15, []) := by decide

/-- 30_encoding R66: `'0'` is 0x30, `'1'` is 0x31; format `token`. -/
theorem test_decode_tokens :
    decode [5#8, 0#8, 0#8, 0x30#8, 0x30#8, 0#8] = .ok (.parseBitPair00, []) ∧
    decode [5#8, 0#8, 0#8, 0x30#8, 0x31#8, 0#8] = .ok (.parseBitPair01, []) ∧
    decode [5#8, 0#8, 0#8, 0x31#8, 0x30#8, 0#8] = .ok (.parseBitPair10, []) ∧
    decode [5#8, 0#8, 0#8, 0x31#8, 0x31#8, 0#8] = .ok (.parseBitPair11, []) ∧
    decode [6#8, 0#8, 0#8, 0#8, 0b00#8, 0#8] = .ok (.formatBitPair0, []) ∧
    decode [6#8, 0#8, 0#8, 0#8, 0b01#8, 0#8] = .ok (.formatBitPair1, []) ∧
    decode [6#8, 0#8, 0#8, 0#8, 0b10#8, 0#8] = .ok (.formatBitPair2, []) ∧
    decode [6#8, 0#8, 0#8, 0#8, 0b11#8, 0#8] = .ok (.formatBitPair3, []) := by decide

/-- 30_encoding R61 (`word32`) and R63 (`out8`: `uuuu1rss`, `uuuu0rss`, `uuuu0r00`). -/
theorem test_decode_encode_and_lines :
    decode [7#8, 0b00000010#8, 0xFF#8, 0x7E#8, 0b00000011#8, 0#8] = .ok (.encode 0xFF#8, []) ∧
    decode [8#8, 0#8, 0#8, 0#8, 0b10101101#8, 0#8] = .ok (.sendSymbolHigh 1#2, []) ∧
    decode [8#8, 0#8, 0#8, 0#8, 0b10100101#8, 0#8] = .ok (.sendSymbolLow, []) ∧
    decode [9#8, 0#8, 0#8, 0#8, 0b10100100#8, 0#8] = .ok (.idleLines, []) := by decide

/-- 30_encoding R64 (`xxxxxRxx`) and R75 (`0b00`, `0b10`, `0b11`). -/
theorem test_decode_response :
    decode [10#8, 0#8, 0#8, 0#8, 0b00000100#8, 0#8] = .ok (.sampleResponse, []) ∧
    decode [11#8, 0#8, 0#8, 0#8, 0b00#8, 0#8] = .ok (.pollTimeout, []) ∧
    decode [11#8, 0#8, 0#8, 0#8, 0b10#8, 0#8] = .ok (.pollNack, []) ∧
    decode [11#8, 0#8, 0#8, 0#8, 0b11#8, 0#8] = .ok (.pollAck, []) := by decide

/-- 30_encoding R76, from `SENDING_NEW`; `SN_BYTE`'s byte is in the extra byte. -/
theorem test_decode_transitions :
    decode [12#8, 0#8, 0#8, 0#8, 0b00000#8, 0x5A#8] = .ok (.snByte 0x5A#8, []) ∧
    decode [12#8, 0#8, 0#8, 0#8, 0b00001#8, 0#8] = .ok (.snEos, []) ∧
    decode [12#8, 0#8, 0#8, 0#8, 0b00010#8, 0#8] = .ok (.snAck, []) ∧
    decode [12#8, 0#8, 0#8, 0#8, 0b00011#8, 0#8] = .ok (.snNack, []) ∧
    decode [12#8, 0#8, 0#8, 0#8, 0b00100#8, 0#8] = .ok (.snTimeout, []) ∧
    decode [12#8, 0#8, 0#8, 0#8, 0b00111#8, 0#8] = .ok (.snMalformed, []) := by decide

/-- 30_encoding R76, from `RETRANSMITTING`, `DONE` and `ABORTED`. -/
theorem test_decode_transitions_later :
    decode [12#8, 0#8, 0#8, 0#8, 0b01101#8, 0#8] = .ok (.rtBoundOk, []) ∧
    decode [12#8, 0#8, 0#8, 0#8, 0b01110#8, 0#8] = .ok (.rtBoundExceeded, []) ∧
    decode [12#8, 0#8, 0#8, 0#8, 0b01010#8, 0#8] = .ok (.rtAck, []) ∧
    decode [12#8, 0#8, 0#8, 0#8, 0b01011#8, 0#8] = .ok (.rtNack, []) ∧
    decode [12#8, 0#8, 0#8, 0#8, 0b01100#8, 0#8] = .ok (.rtTimeout, []) ∧
    decode [12#8, 0#8, 0#8, 0#8, 0b10100#8, 0#8] = .ok (.doneAny .timeout, []) ∧
    decode [12#8, 0#8, 0#8, 0#8, 0b11111#8, 0#8] = .ok (.abortedAny .malformed, []) := by decide

/-- 30_encoding R74, codes 0 to 6, then 7 to 12. -/
theorem test_decode_steps :
    decode [13#8, 0#8, 0#8, 0#8, 0b0000#8, 0#8] = .ok (.stepInit, []) ∧
    decode [13#8, 0#8, 0#8, 0#8, 0b0001#8, 0#8] = .ok (.stepFetch, []) ∧
    decode [13#8, 0#8, 0#8, 0#8, 0b0010#8, 0#8] = .ok (.stepSymRead, []) ∧
    decode [13#8, 0#8, 0#8, 0#8, 0b0011#8, 0#8] = .ok (.stepSymHigh, []) ∧
    decode [13#8, 0#8, 0#8, 0#8, 0b0100#8, 0#8] = .ok (.stepSymHold, []) ∧
    decode [13#8, 0#8, 0#8, 0#8, 0b0101#8, 0#8] = .ok (.stepSymLow, []) ∧
    decode [13#8, 0#8, 0#8, 0#8, 0b0110#8, 0#8] = .ok (.stepPollFirst, []) := by decide

theorem test_decode_steps_later :
    decode [13#8, 0#8, 0#8, 0#8, 0b0111#8, 0#8] = .ok (.stepPollSettle, []) ∧
    decode [13#8, 0#8, 0#8, 0#8, 0b1000#8, 0#8] = .ok (.stepPollSecond, []) ∧
    decode [13#8, 0#8, 0#8, 0#8, 0b1001#8, 0#8] = .ok (.stepRetryCheck, []) ∧
    decode [13#8, 0#8, 0#8, 0#8, 0b1010#8, 0#8] = .ok (.stepCleanRead, []) ∧
    decode [13#8, 0#8, 0#8, 0#8, 0b1011#8, 0#8] = .ok (.stepCleanWrite, []) ∧
    decode [13#8, 0#8, 0#8, 0#8, 0b1100#8, 0#8] = .ok (.stepHalt, []) := by decide

/-- 45_port_primitives R150 to R155 with their formats. -/
theorem test_decode_primitives :
    decode [14#8, 0#8, 0#8, 0#8, 0b00000100#8, 0#8] = .ok (.readInputRegister, []) ∧
    decode [15#8, 0#8, 0#8, 0#8, 0b11110110#8, 0#8] = .ok (.readOutputRegister, []) ∧
    decode [16#8, 0#8, 0#8, 0#8, 0b00001010#8, 0#8] = .ok (.writeOutputRegister 0x0A#8, []) ∧
    decode [17#8, 0#8, 0#8, 0#8, 0b10000001#8, 0#8] = .ok (.configureDirection 0x81#8, []) ∧
    decode [18#8, 0#8, 0#8, 0x01#8, 0x2C#8, 0#8] = .ok (.delay 300, []) ∧
    decode [19#8, 0#8, 0#8, 0#8, 0x41#8, 0#8] = .ok (.nextByte, []) := by decide

/-- Every name of a rejection (30_encoding R77 items a, f, g). -/
theorem test_decode_rejects_by_name :
    decode [0#8, 0#8, 0#8, 0#8, 0x41#8] = .error .truncated ∧
    decode [20#8, 0#8, 0#8, 0#8, 0#8, 0#8] = .error .unknownOperation ∧
    decode [0#8, 0#8, 0#8, 1#8, 0x41#8, 0#8] = .error .wordTooWide ∧
    decode [7#8, 0x03#8, 0x41#8, 0x41#8, 0x03#8, 0#8] = .error .patternMismatch ∧
    decode [12#8, 0#8, 0#8, 0#8, 0b01001#8, 0#8] = .error .impossiblePair ∧
    decode [13#8, 0#8, 0#8, 0#8, 13#8, 0#8] = .error .unusedPhaseCode ∧
    decode [11#8, 0#8, 0#8, 0#8, 0b01#8, 0#8] = .error .unusedClassification ∧
    decode [5#8, 0#8, 0#8, 0x31#8, 0x61#8, 0#8] = .error .malformedToken ∧
    decode [3#8, 0#8, 0#8, 0#8, 0#8, 16#8] = .error .strayOperand := by decide

/-- Bytes behind an operation word are refused where it is run. -/
theorem test_trailing_bytes_fault :
    step { base with requests := [.operation [9#8, 0#8, 0#8, 0#8, 0#8, 0#8, 1#8]] } =
      .fault (.notAnOperation .trailingBytes) := rfl

/-- A bare table word of each width that can be told from the others, placed and run as the first step after reset. -/
theorem test_bare_table_words_run :
    decodeTableWord 32 0x02414103 = some (.encode 0x41#8) ∧ decodeTableWord 16 0x3130 = some .parseBitPair10 ∧
    decodeTableWord 8 0b1001 = some .stepRetryCheck ∧ decodeTableWord 8 0b11110110 = some .sendSymbolLow ∧
    ((after (step (State.reset.withFetchWord 32 0x02414103))).map fun s => (s.checksum, s.answer)) =
      some (0x41#8, .word 0x02414103#32) ∧
    ((after (step (State.reset.withFetchWord 8 0b1001))).map fun s => (s.retryCount, s.phase)) =
      some (1, .symRead) := by decide

/-! ### SymbolCodec (95_test_vectors V-C) -/

theorem test_splitByte : (after (exec (.splitByte 0xE4#8) base)).map (·.answer) = some (.symbols 3#2 2#2 1#2 0#2) := by decide
theorem test_joinSymbols : (after (exec (.joinSymbols 1#2 0#2 0#2 1#2) base)).map (·.answer) = some (.byte 0x41#8) := by decide
theorem test_packSymbol_top_falls_off :
    (after (exec (.packSymbol 0xC0000000#32 1#2) base)).map (·.answer) = some (.word 0x00000001#32) := by decide
theorem test_packSymbol_writes_no_register :
    (after (exec (.packSymbol 0xFFFFFFFF#32 0#2) base)).map (fun s => (s.answer, s.package)) =
      some (.word 0xFFFFFFFC#32, 0#32) := by decide
theorem test_extractSymbol_ends :
    (after (exec (.extractSymbol 0x80000001#32 0) base)).map (·.answer) = some (.symbol 2#2) ∧
    (after (exec (.extractSymbol 0x80000001#32 15) base)).map (·.answer) = some (.symbol 1#2) := by decide
theorem test_symbolOfPacket :
    (after (exec (.symbolOfPacket 0x02414103#32 4) base)).map (·.answer) = some (.symbol 1#2) ∧
    (after (exec (.symbolOfPacket 0x02414103#32 15) base)).map (·.answer) = some (.symbol 3#2) := by decide
theorem test_parseBitPair_all :
    [Instr.parseBitPair00, .parseBitPair01, .parseBitPair10, .parseBitPair11].map
      (fun i => (after (exec i base)).map (·.answer)) =
        [some (.symbol 0#2), some (.symbol 1#2), some (.symbol 2#2), some (.symbol 3#2)] := by decide
/-- V-C19: the malformed lines of the vector, in ASCII. -/
theorem test_parseBitPair_malformed :
    [[], [0x31#8], [0x30#8, 0x31#8, 0x32#8], [0x32#8], [0x31#8, 0x61#8], [0x30#8, 0x20#8, 0x31#8],
     [0x20#8, 0x31#8, 0x30#8], [0x31#8, 0x30#8, 0x20#8]].map parseBitPair =
        [none, none, none, none, none, none, none, none] := by decide
theorem test_formatBitPair_all :
    [Instr.formatBitPair0, .formatBitPair1, .formatBitPair2, .formatBitPair3].map
      (fun i => (after (exec i base)).map (·.answer)) =
        [some (.text 0x30#8 0x30#8), some (.text 0x30#8 0x31#8), some (.text 0x31#8 0x30#8), some (.text 0x31#8 0x31#8)] := by
  decide

/-! ### FrameEncoder (V-F) -/

theorem test_encode_wraps :
    (after (exec (.encode 0x01#8) { base with checksum := 0xFF#8 })).map (fun s => (s.checksum, s.answer)) =
      some (0x00#8, .word 0x02010003#32) := by decide
theorem test_encode_is_cumulative :
    (after (exec (.encode 0x42#8) { base with checksum := 0x41#8 })).map (fun s => (s.checksum, s.answer, s.packet)) =
      some (0x83#8, .word 0x02428303#32, 0#32) := by decide

/-! ### LinkTransmitter (V-T) -/

theorem test_sendSymbol_high :
    (after (exec (.sendSymbolHigh 1#2) { base with out := 0xFF#8 })).map (·.trace) = some [.wo 0xFD#8, .ro 0xFF#8] := by decide
theorem test_sendSymbol_low :
    (after (exec .sendSymbolLow { base with out := 0xFD#8, outHold := 0xFD#8 })).map (·.trace) =
      some [.wo 0xF5#8, .dly 60] := by decide
theorem test_idleLines :
    (after (exec .idleLines { base with out := 0xA7#8 })).map (fun s => (s.out, s.trace)) =
      some (0xA4#8, [.wo 0xA4#8, .ro 0xA7#8]) := by decide

/-! ### ResponseMonitor (V-R) -/

theorem test_sampleResponse_ignores_other_bits :
    (after (exec .sampleResponse { base with inAnswers := [0xFB#8] })).map (·.answer) = some (.level false) := by decide
theorem test_pollTimeout :
    (after (exec .pollTimeout base)).map (fun s => (s.answer, s.trace)) =
      some (.classification .timeout, [.ri 0x00#8]) := by decide
theorem test_pollNack :
    (after (exec .pollNack base)).map (fun s => (s.answer, s.trace)) =
      some (.classification .nack, [.ri 0x00#8, .dly 30, .ri 0x04#8]) := by decide
theorem test_pollAck :
    (after (exec .pollAck base)).map (fun s => (s.answer, s.trace)) =
      some (.classification .ack, [.ri 0x04#8, .dly 30, .ri 0x04#8]) := by decide
/-- V-R5: a poll of `IN = 0xFF`, then `0xFB`. -/
theorem test_poll_of_input : (pollResponse { base with inAnswers := [0xFF#8, 0xFB#8] }).1 = .nack := by decide

/-! ### Transitions (V-K) -/

/-- V-K2: the byte `0x41` from `OUT = 0xF4`: the package, the count, the checksum; the last symbol on the lines (P2). -/
theorem test_snByte :
    (after (exec (.snByte 0x41#8) atFetch)).map (fun s => (s.package, s.symbolsSent, s.checksum, s.out, s.trace.length)) =
      some (0x02414103#32, 16, 0x41#8, 0xF7#8, 64) := by decide
theorem test_snEos :
    (after (exec .snEos atFetch)).map (fun s => (s.state, s.cause, s.phase)) = some (.done, .none, .cleanRead) := by decide
theorem test_snAck :
    (after (exec .snAck (inGroup .pollSecond 16))).map (fun s => (s.state, s.retryCount, s.package, s.symbolsSent)) =
      some (.sendingNew, 0, 0#32, 0) := by decide
theorem test_snNack :
    (after (exec .snNack (inGroup .pollSecond 16))).map (fun s => (s.state, s.retryCount, s.package, s.symbolsSent)) =
      some (.retransmitting, 0, 0x02414103#32, 0) := by decide
theorem test_snTimeout :
    (after (exec .snTimeout (inGroup .pollFirst 16))).map (fun s => (s.state, s.cause, s.package, s.symbolsSent)) =
      some (.aborted, .linkTimeout, 0x02414103#32, 0) := by decide
/-- V-E6: after two symbols were sent, the third token is malformed. -/
theorem test_snMalformed :
    (after (exec .snMalformed (inGroup .symRead 2))).map (fun s => (s.state, s.cause, s.phase)) =
      some (.aborted, .malformedSymbolInput, .cleanRead) := by decide
/-- 60_exceptions R167: "never at a poll". -/
theorem test_snMalformed_not_at_poll :
    exec .snMalformed (inGroup .pollFirst 16) = .refused (.eventCannotOccur .sendingNew .malformed) := rfl
/-- V-E6 through the text pipe: the third line, `0x`. -/
theorem test_malformed_line_aborts :
    (after (step { inGroup .symRead 2 with requests := [.line [0x30#8, 0x78#8]] })).map
      (fun s => (s.state, s.cause, s.answer, s.requests)) =
        some (.aborted, .malformedSymbolInput, .malformed, []) := by decide
/-- R86 by operation word: the token `1a` returns the error at a poll and changes nothing else. -/
theorem test_malformed_operation_returns_error :
    (after (step { inGroup .pollFirst 16 with requests := [.operation [5#8, 0#8, 0#8, 0x31#8, 0x61#8, 0#8]] })).map
      (fun s => (s.state, s.cause, s.phase, s.answer, s.requests)) =
        some (.sendingNew, .none, .pollFirst, .malformed, []) := by decide
/-- The same token where one is due (60_exceptions R161). -/
theorem test_malformed_operation_aborts :
    (after (step { inGroup .symRead 2 with requests := [.operation [5#8, 0#8, 0#8, 0x31#8, 0x61#8, 0#8]] })).map
      (fun s => (s.state, s.cause, s.phase, s.answer)) =
        some (.aborted, .malformedSymbolInput, .cleanRead, .malformed) := by decide
/-- A line stays in the pipe while a group is polled. -/
theorem test_line_waits_at_poll :
    (after (step { inGroup .pollFirst 16 with requests := [.line [0x78#8]] })).map
      (fun s => (s.state, s.phase, s.requests)) =
        some (.sendingNew, .pollSettle, [.line [0x78#8]]) := by decide
/-- 60_exceptions R168: a second malformed line, behind the abort, does not keep the lines from being cleaned up. -/
theorem test_line_after_abort :
    (after (step { atEnd .aborted .cleanRead with requests := [.line [0x78#8]] })).map
      (fun s => (s.state, s.trace, s.phase, s.requests)) =
        some (.aborted, [.wo 0x00#8, .ro 0x03#8], .halt, []) := by decide
theorem test_rtBoundOk :
    (after (exec .rtBoundOk (inReplay .retryCheck 0 2))).map (fun s => (s.retryCount, s.package, s.symbolsSent, s.checksum)) =
      some (3, 0x02414103#32, 16, 0x41#8) := by decide
theorem test_rtBoundExceeded :
    (after (exec .rtBoundExceeded (inReplay .retryCheck 0 3))).map (fun s => (s.state, s.retryCount, s.cause, s.trace.length)) =
      some (.aborted, 4, .retryBoundExceeded, 1) := by decide
theorem test_rtAck :
    (after (exec .rtAck (inReplay .pollSecond 16 3))).map (fun s => (s.state, s.retryCount, s.package, s.symbolsSent)) =
      some (.sendingNew, 0, 0#32, 0) := by decide
theorem test_rtNack :
    (after (exec .rtNack (inReplay .pollSecond 16 1))).map (fun s => (s.state, s.retryCount, s.package, s.symbolsSent)) =
      some (.retransmitting, 1, 0x02414103#32, 0) := by decide
theorem test_rtTimeout :
    (after (exec .rtTimeout (inReplay .pollFirst 16 1))).map (fun s => (s.state, s.retryCount, s.cause)) =
      some (.aborted, 1, .linkTimeout) := by decide
/-- V-E5: the cleanup from `OUT = 0x03`. -/
theorem test_abortedAny :
    (after (exec (.abortedAny .ack) (atEnd .aborted .cleanRead))).map (fun s => (s.trace, s.phase, s.state)) =
      some ([.wo 0x00#8, .ro 0x03#8], .halt, .aborted) := by decide
/-- V-K12: "anything". -/
theorem test_ack_after_halt : exec .snAck (atEnd .done .halt) = .next (atEnd .done .halt) := rfl
/-- V-K12. -/
theorem test_doneAny_halted : exec (.doneAny .byte) (atEnd .done .halt) = .next (atEnd .done .halt) := rfl

/-! ### Steps: the checkpoints of program P1 and the ends of P3, P4 -/

theorem test_stepInit : (after (exec .stepInit base)).map (fun s => (s.trace, s.phase)) = some ([.cfg 0x0B#8], .fetch) := by decide
theorem test_stepFetch :
    (after (exec .stepFetch atFetch)).map (fun s => (s.checksum, s.packet, s.package, s.phase)) =
      some (0x41#8, 0x02414103#32, 0#32, .symRead) := by decide
theorem test_stepFetch_end :
    (after (exec .stepFetch { atFetch with source := [] })).map (fun s => (s.state, s.phase, s.trace)) =
      some (.done, .cleanRead, [.nb none]) := by decide
theorem test_stepSymRead :
    (after (exec .stepSymRead { inGroup .symRead 0 with out := 0x00#8 })).map (fun s => (s.outHold, s.phase)) =
      some (0x08#8, .symHigh) := by decide
theorem test_stepSymRead_last :
    (after (exec .stepSymRead (inGroup .symRead 15))).map (fun s => (s.outHold, s.package)) =
      some (0xFF#8, 0x02414103#32) := by decide
theorem test_stepSymHigh :
    (after (exec .stepSymHigh { inGroup .symHigh 3 with outHold := 0xFE#8 })).map (fun s => (s.out, s.phase)) =
      some (0xFE#8, .symHold) := by decide
theorem test_stepSymHold :
    (after (exec .stepSymHold (inGroup .symHold 3))).map (fun s => (s.trace.head?, s.phase)) =
      some (some (.dly 60), .symLow) := by decide
theorem test_stepSymLow_last :
    (after (exec .stepSymLow { inGroup .symLow 15 with outHold := 0x0B#8 })).map (fun s => (s.outHold, s.symbolsSent, s.phase)) =
      some (0x03#8, 16, .pollFirst) := by decide
theorem test_stepSymLow_first :
    (after (exec .stepSymLow { inGroup .symLow 0 with outHold := 0xFC#8 })).map (fun s => (s.out, s.symbolsSent, s.phase)) =
      some (0xF4#8, 1, .symRead) := by decide
theorem test_stepPollFirst_low :
    (after (exec .stepPollFirst { inGroup .pollFirst 16 with inAnswers := [0x00#8] })).map
      (fun s => (s.state, s.cause, s.symbolsSent, s.phase)) = some (.aborted, .linkTimeout, 0, .cleanRead) := by decide
theorem test_stepPollFirst_high :
    (after (exec .stepPollFirst (inGroup .pollFirst 16))).map (fun s => (s.state, s.symbolsSent, s.phase)) =
      some (.sendingNew, 16, .pollSettle) := by decide
theorem test_stepPollSettle :
    (after (exec .stepPollSettle (inGroup .pollSettle 16))).map (fun s => (s.trace.head?, s.phase)) =
      some (some (.dly 30), .pollSecond) := by decide
theorem test_stepPollSecond_ack :
    (after (exec .stepPollSecond (inReplay .pollSecond 16 3))).map (fun s => (s.state, s.retryCount, s.package, s.phase)) =
      some (.sendingNew, 0, 0#32, .fetch) := by decide
theorem test_stepPollSecond_nack :
    (after (exec .stepPollSecond { inGroup .pollSecond 16 with inAnswers := [0xFB#8] })).map
      (fun s => (s.state, s.retryCount, s.package, s.phase)) =
        some (.retransmitting, 0, 0x02414103#32, .retryCheck) := by decide
theorem test_stepRetryCheck_last :
    (after (exec .stepRetryCheck (inReplay .retryCheck 0 2))).map (fun s => (s.state, s.retryCount, s.phase)) =
      some (.retransmitting, 3, .symRead) := by decide
theorem test_stepRetryCheck_exceeded :
    (after (exec .stepRetryCheck (inReplay .retryCheck 0 3))).map (fun s => (s.state, s.retryCount, s.cause, s.phase)) =
      some (.aborted, 4, .retryBoundExceeded, .cleanRead) := by decide
theorem test_stepCleanRead :
    (after (exec .stepCleanRead { atEnd .done .cleanRead with out := 0xFF#8 })).map (fun s => (s.outHold, s.phase)) =
      some (0xF4#8, .cleanWrite) := by decide
theorem test_stepCleanWrite :
    (after (exec .stepCleanWrite (atEnd .aborted .cleanWrite))).map (fun s => (s.out, s.trace, s.phase)) =
      some (0x00#8, [.wo 0x00#8], .halt) := by decide
theorem test_stepHalt : exec .stepHalt (atEnd .done .halt) = .next (atEnd .done .halt) := rfl
/-- A step is refused by name outside its phase. -/
theorem test_step_not_enabled : exec .stepFetch base = .refused (.stepNotEnabled .fetch) := rfl

/-! ### Primitives and reset (V-P) -/

theorem test_readInputRegister :
    (after (exec .readInputRegister base)).map (fun s => (s.answer, s.inAnswers)) = some (.byte 0x04#8, [0x04#8]) := by decide
theorem test_readOutputRegister :
    (after (exec .readOutputRegister { base with out := 0xF6#8 })).map (·.answer) = some (.byte 0xF6#8) := by decide
theorem test_writeOutputRegister :
    (after (exec (.writeOutputRegister 0x0A#8) base)).map (fun s => (s.out, s.outHold)) = some (0x0A#8, 0x00#8) := by decide
theorem test_configureDirection :
    (after (exec (.configureDirection 0x81#8) base)).map (fun s => (s.dir, s.trace)) = some (0x81#8, [.cfg 0x81#8]) := by decide
theorem test_delay : (after (exec (.delay 60) base)).map (·.trace) = some [.dly 60] := by decide
theorem test_nextByte :
    (after (exec .nextByte base)).map (fun s => (s.answer, s.source)) = some (.byte 0x41#8, []) := by decide
theorem test_nextByte_end :
    (after (exec .nextByte { base with source := [] })).map (·.answer) = some .endOfStream := by decide
/-- V-P5. -/
theorem test_restart :
    (after (step { atEnd .aborted .halt with
                     checksum := 0xFF#8, retryCount := 4, retryBounded := Nat.le_refl _, package := 0x02FFFF03#32,
                     cause := .retryBoundExceeded, requests := [.restart] })).map
      (fun s => (s.checksum, s.retryCount, s.package, s.cause, s.phase, s.out)) =
        some (0x00#8, 0, 0#32, .none, .init, 0x03#8) := by decide
/-- P5, the empty stream with `OUT_INIT` = 0xFF: four steps (each a transaction), `DIR_MASK` being the reference's. -/
theorem test_empty_stream :
    (match Host.Core.run Sys2Proof.core 4 (State.load Config.reference 0xFF#8 [] false []) with
     | .next s => some (State.trace s, State.phase s, State.state s)
     | .fault _ => none
     | .refused _ => none) =
      some ([.wo 0xF4#8, .ro 0xFF#8, .nb none, .cfg 0x0B#8], .halt, .done) := by decide

/-! ### Witnesses: for each obligation with hypotheses, data that meets all of them, clause by clause -/

theorem witness_DecodeAfterEncode : (Instr.delay 4294967295).wf = true := by decide

theorem witness_PendingOperationRuns :
    { base with requests := [.operation [9#8, 0#8, 0#8, 0#8, 0#8, 0#8]] }.requests =
      .operation [9#8, 0#8, 0#8, 0#8, 0#8, 0#8] :: [] ∧
    decode [9#8, 0#8, 0#8, 0#8, 0#8, 0#8] = .ok (.idleLines, []) := by decide

theorem witness_PhaseDecidesStep : base.requests = [] := by decide

theorem witness_BareTableWordRuns : decodeTableWord 16 0x3131 = some .parseBitPair11 := by decide

/-- The five kinds of line, the last an empty one, before the first and before the last symbol; each kind of wait; the end. -/
theorem witness_ParseBitPairResult :
    (∀ line : List Byte, { inGroup .symRead 15 with requests := [.line line] }.requests = .line line :: []) ∧
    ([] : List Byte) ∉ [[0x30#8, 0x30#8], [0x30#8, 0x31#8], [0x31#8, 0x30#8], [0x31#8, 0x31#8]] ∧
    (atFetch.state = .sendingNew ∧ atFetch.symbolsSent.val < 16 ∧ atFetch.phase = .fetch) ∧
    ((inGroup .symRead 15).state = .sendingNew ∧ (inGroup .symRead 15).symbolsSent.val < 16 ∧
      (inGroup .symRead 15).phase = .symRead) ∧
    (inReplay .symRead 15 1).state = .retransmitting ∧
    ((inGroup .pollFirst 16).state = .sendingNew ∧ (inGroup .pollFirst 16).symbolsSent.val = 16) ∧
    ((inGroup .symHigh 15).phase ≠ .fetch ∧ (inGroup .symHigh 15).phase ≠ .symRead) ∧
    (atEnd .done .cleanRead).state = .done ∧ (atEnd .aborted .halt).state = .aborted := by
  exact ⟨fun _ => rfl, by decide⟩

/-- The clauses over an operation word: the token `1a`, where one is due and where none is. -/
theorem witness_ParseBitPairResult_operation :
    (∀ s : State, { s with requests := [.operation [5#8, 0#8, 0#8, 0x31#8, 0x61#8, 0#8]] }.requests =
      .operation [5#8, 0#8, 0#8, 0x31#8, 0x61#8, 0#8] :: []) ∧
    [0x31#8, 0x61#8] ∉ [[0x30#8, 0x30#8], [0x30#8, 0x31#8], [0x31#8, 0x30#8], [0x31#8, 0x31#8]] ∧
    (inReplay .symRead 15 1).state ≠ .sendingNew ∧ (atEnd .done .halt).state ≠ .sendingNew ∧
    (base.phase ≠ .fetch ∧ base.phase ≠ .symRead) := by
  exact ⟨fun _ => rfl, by decide⟩

theorem witness_SendSymbolTransactions :
    (0xFE#8 : Byte) =
      (base.out &&& ~~~(dataMask base.cfg ||| clockMask base.cfg)) ||| placeSymbol base.cfg 2#2 ||| clockMask base.cfg ∧
    (0x00#8 : Byte) = base.outHold &&& ~~~clockMask base.cfg := by decide

/-- A word of each kind. -/
theorem witness_OnlyImpossiblePairsRejected :
    0b01111#5 ∈ [0b00101#5, 0b00110#5, 0b01000#5, 0b01001#5, 0b01111#5] ∧
    0b11111#5 ∉ [0b00101#5, 0b00110#5, 0b01000#5, 0b01001#5, 0b01111#5] := by decide

/-- A foreign bit below, and the highest bit. -/
theorem witness_LinesCarrySymbol :
    (2 ≠ base.cfg.pins.dataLow.val ∧ 2 ≠ base.cfg.pins.dataLow.val + 1 ∧ 2 ≠ base.cfg.pins.clockBit.val) ∧
    (7 ≠ base.cfg.pins.dataLow.val ∧ 7 ≠ base.cfg.pins.dataLow.val + 1 ∧ 7 ≠ base.cfg.pins.clockBit.val) := by decide

theorem witness_IdleLinesResult : (0xF4#8 : Byte) = base.out &&& ~~~(dataMask base.cfg ||| clockMask base.cfg) := by decide

theorem witness_PollResults : (0x04#8 : Byte) = responseMask base.cfg := by decide

/-- Two samples that agree in the response bit alone, at each of the three instructions. -/
theorem witness_OnlyResponseBitCounts :
    (0x04#8 : Byte).getLsbD base.cfg.pins.responseBit.val = (0xFF#8 : Byte).getLsbD base.cfg.pins.responseBit.val ∧
    (after (exec .stepPollFirst { inGroup .pollFirst 16 with inAnswers := [0x04#8] })).isSome = true ∧
    (after (exec .stepPollSecond { inGroup .pollSecond 16 with inAnswers := [0x04#8] })).isSome = true ∧
    (after (exec .sampleResponse { base with inAnswers := [0x04#8] })).isSome = true := by decide

theorem witness_ReadsAnswerInput : base.inAnswers = 0x04#8 :: [0x04#8] := by decide

theorem witness_FirstAttemptSendsGroup :
    atFetch.state = .sendingNew ∧ atFetch.phase = .fetch ∧ atFetch.symbolsSent = 0 ∧
    (0x02FFFF03#32 : Word) = 0x02#8 ++ 0xFF#8 ++ (atFetch.checksum + 0xFF#8) ++ 0x03#8 := by decide

/-- The last permitted retry. -/
theorem witness_ReplaySendsRetainedPackage :
    (inReplay .retryCheck 0 2).state = .retransmitting ∧ (inReplay .retryCheck 0 2).phase = .retryCheck ∧
    (inReplay .retryCheck 0 2).symbolsSent = 0 ∧
    (inReplay .retryCheck 0 2).retryCount + 1 ≤ (inReplay .retryCheck 0 2).cfg.maxRetry := by decide

/-- The first retry past the bound, and the register's top value. -/
theorem witness_ExceededBoundAborts :
    (inReplay .retryCheck 0 3).state = .retransmitting ∧ (inReplay .retryCheck 0 3).phase = .retryCheck ∧
    (inReplay .retryCheck 0 3).symbolsSent = 0 ∧
    (inReplay .retryCheck 0 3).retryCount + 1 > (inReplay .retryCheck 0 3).cfg.maxRetry ∧
    (inReplay .retryCheck 0 4).retryCount + 1 > (inReplay .retryCheck 0 4).cfg.maxRetry := by decide

theorem witness_EndOfStreamEndsSession :
    atFetch.state = .sendingNew ∧ atFetch.phase = .fetch ∧ atFetch.symbolsSent = 0 := by decide

/-- For `AckFetchesNextByte`, `NackRetainsPackage` and `TimeoutAborts`: each clause's state. -/
theorem witness_AnsweredPolls :
    (inGroup .pollSecond 16).symbolsSent = 16 ∧ (inGroup .pollSecond 16).state = .sendingNew ∧
    (inReplay .pollSecond 16 1).symbolsSent = 16 ∧ (inReplay .pollSecond 16 1).state = .retransmitting := by decide

/-- The last symbol of a group; the poll after it; inside that symbol. -/
theorem witness_MalformedTokenAborts :
    ((inGroup .symRead 15).state = .sendingNew ∧ (inGroup .symRead 15).symbolsSent.val < 16 ∧
      (inGroup .symRead 15).phase = .symRead) ∧
    (atFetch.symbolsSent.val < 16 ∧ atFetch.phase = .fetch) ∧
    (inGroup .pollFirst 16).symbolsSent.val = 16 ∧
    ((inGroup .symLow 15).phase ≠ .fetch ∧ (inGroup .symLow 15).phase ≠ .symRead) := by decide

/-- Both terminal states, and each clause's phase. -/
theorem witness_TerminalStatesStop :
    (atEnd .done .cleanRead).state = .done ∧ (atEnd .aborted .cleanRead).state = .aborted ∧
    (0x00#8 : Byte) = (atEnd .done .cleanRead).out &&&
      ~~~(dataMask (atEnd .done .cleanRead).cfg ||| clockMask (atEnd .done .cleanRead).cfg) ∧
    ((atEnd .done .cleanRead).phase ≠ .cleanWrite ∧ (atEnd .done .cleanRead).phase ≠ .halt) ∧
    (atEnd .done .cleanWrite).phase = .cleanWrite ∧ (atEnd .aborted .halt).phase = .halt ∧
    (after (exec (.abortedAny .ack) (atEnd .aborted .cleanRead))).isSome = true := by decide

theorem witness_TransitionsNeedTheirState :
    (inReplay .retryCheck 0 1).state = .retransmitting ∧ base.state = .sendingNew := by decide

theorem witness_InitStep : base.phase = .init ∧ base.state = .sendingNew := by decide

/-- The end of the stream, a byte of the list, an endless stream. -/
theorem witness_FetchStep :
    (atFetch.phase = .fetch ∧ atFetch.state = .sendingNew ∧ atFetch.symbolsSent = 0) ∧
    ({ atFetch with source := [] }.source = [] ∧ { atFetch with source := [] }.endless = false) ∧
    atFetch.source = 0x41#8 :: [] ∧
    ({ atFetch with source := [], endless := true }.source = [] ∧
      { atFetch with source := [], endless := true }.endless = true) := by decide

/-- The first and the last symbol, on a first attempt and on a replay. -/
theorem witness_SymReadStep :
    ((inGroup .symRead 0).phase = .symRead ∧ (inGroup .symRead 0).symbolsSent.val = (0 : Fin 16).val ∧
      (inGroup .symRead 0).state = .sendingNew) ∧
    ((inReplay .symRead 15 1).phase = .symRead ∧ (inReplay .symRead 15 1).symbolsSent.val = (15 : Fin 16).val ∧
      (inReplay .symRead 15 1).state = .retransmitting) := by decide

/-- Each phase, with the counts on both sides of the last symbol. -/
theorem witness_StrobeSteps :
    ((inGroup .symHigh 0).state = .sendingNew ∧ (inGroup .symHigh 0).symbolsSent.val = (0 : Fin 16).val ∧
      (inGroup .symHigh 0).phase = .symHigh) ∧
    ((inReplay .symHold 15 1).state = .retransmitting ∧ (inReplay .symHold 15 1).symbolsSent.val = (15 : Fin 16).val ∧
      (inReplay .symHold 15 1).phase = .symHold) ∧
    ((inGroup .symLow 14).phase = .symLow ∧ (inGroup .symLow 14).symbolsSent.val = (14 : Fin 16).val) ∧
    ((inGroup .symLow 15).phase = .symLow ∧ (inGroup .symLow 15).symbolsSent.val = (15 : Fin 16).val) := by decide

/-- A sample with every bit but the response bit, and one with it alone. -/
theorem witness_PollFirstStep :
    ((inGroup .pollFirst 16).phase = .pollFirst ∧ (inGroup .pollFirst 16).symbolsSent = 16 ∧
      (inGroup .pollFirst 16).state = .sendingNew) ∧
    (inReplay .pollFirst 16 3).state = .retransmitting ∧
    (0xFB#8 : Byte) &&& responseMask base.cfg = 0#8 ∧ (0x04#8 : Byte) &&& responseMask base.cfg ≠ 0#8 ∧
    (inGroup .pollFirst 16).inAnswers = 0x04#8 :: [0x04#8] := by decide

theorem witness_PollSecondSteps :
    ((inGroup .pollSettle 16).symbolsSent = 16 ∧ (inGroup .pollSettle 16).state = .sendingNew ∧
      (inGroup .pollSettle 16).phase = .pollSettle) ∧
    ((inReplay .pollSecond 16 3).symbolsSent = 16 ∧ (inReplay .pollSecond 16 3).state = .retransmitting ∧
      (inReplay .pollSecond 16 3).phase = .pollSecond ∧ (inReplay .pollSecond 16 3).inAnswers = 0x04#8 :: [0x04#8]) := by decide

/-- Both sides of the bound. -/
theorem witness_RetryCheckStep :
    ((inReplay .retryCheck 0 3).phase = .retryCheck ∧ (inReplay .retryCheck 0 3).state = .retransmitting ∧
      (inReplay .retryCheck 0 3).symbolsSent = 0) ∧
    (inReplay .retryCheck 0 3).retryCount ≤ (inReplay .retryCheck 0 3).cfg.maxRetry ∧
    (inReplay .retryCheck 0 3).retryCount + 1 > (inReplay .retryCheck 0 3).cfg.maxRetry ∧
    (inReplay .retryCheck 0 2).retryCount + 1 ≤ (inReplay .retryCheck 0 2).cfg.maxRetry := by decide

theorem witness_CleanSteps :
    (atEnd .done .cleanRead).state = .done ∧ (atEnd .done .cleanRead).phase = .cleanRead ∧
    (atEnd .aborted .cleanWrite).state = .aborted ∧ (atEnd .aborted .cleanWrite).phase = .cleanWrite := by decide

theorem witness_HaltAbsorbs : (atEnd .done .halt).phase = .halt ∧ (atEnd .done .halt).requests = [] := by decide

theorem witness_OneTransactionPerStep : base.requests = [] ∧ (after (step base)).isSome = true := by decide

theorem witness_ReplayIgnoresPacketAndSource :
    (inReplay .retryCheck 0 0).state = .retransmitting ∧
    (after (exec .rtBoundOk (inReplay .retryCheck 0 0))).isSome = true := by decide

theorem witness_OutIsLastWritten :
    base.out = lastWritten 0xF4#8 base.trace ∧ (after (exec .idleLines base)).isSome = true := by decide

theorem witness_NextByteResult :
    base.source = 0x41#8 :: [] ∧
    ({ base with source := [] }.source = [] ∧ { base with source := [] }.endless = false) ∧
    ({ base with source := [], endless := true }.source = [] ∧
      { base with source := [], endless := true }.endless = true) := by decide

theorem witness_RestartResetsBlock : { atEnd .aborted .halt with requests := [.restart] }.requests = .restart :: [] := by decide

theorem witness_ResetValues :
    base = State.load Config.reference 0xF4#8 [0x41#8] false [0x04#8, 0x04#8] := rfl

/-- The step that writes `cause`, and one that does not. -/
theorem witness_CauseWrittenOnAbort :
    (after (exec .snTimeout (inGroup .pollFirst 16))).isSome = true ∧ (after (exec .snEos atFetch)).isSome = true := by decide

/-- `encode` itself, and an instruction that is none of the three. -/
theorem witness_EncoderOwnsChecksum :
    (after (exec (.encode 0x41#8) base)).isSome = true ∧ (after (exec .rtBoundOk (inReplay .retryCheck 0 0))).isSome = true ∧
    Instr.encode 0x41#8 ≠ .stepFetch ∧ Instr.rtBoundOk ≠ .stepFetch := by decide

/-! The invariant of a session, in the four phases where a turn of procedure `Session` begins, and inside a group. -/

theorem witness_SessionInv_init : SessionInv base ∧ base.phase = .init :=
  ⟨⟨by decide, by decide, by decide, by decide, by decide, by decide, ⟨rfl, rfl, rfl, rfl⟩⟩, rfl⟩

theorem witness_SessionInv_fetch : SessionInv atFetch ∧ atFetch.phase = .fetch :=
  ⟨⟨by decide, by decide, by decide, by decide, by decide, by decide, ⟨rfl, rfl, rfl, rfl⟩⟩, rfl⟩

theorem witness_SessionInv_symRead : SessionInv (inGroup .symRead 15) :=
  ⟨by decide, by decide, by decide, by decide, by decide, by decide,
    ⟨⟨by decide, by decide⟩, by decide, fun _ => by decide, fun _ => by unfold ClockLow; decide⟩⟩

theorem witness_SessionInv_retryCheck :
    SessionInv (inReplay .retryCheck 0 3) ∧ (inReplay .retryCheck 0 3).phase = .retryCheck :=
  ⟨⟨by decide, by decide, by decide, by decide, by decide, by decide,
    ⟨rfl, rfl, by decide, rfl, by decide, by unfold ClockLow; decide⟩⟩, rfl⟩

theorem witness_SessionInv_cleanRead :
    SessionInv (atEnd .aborted .cleanRead) ∧ (atEnd .aborted .cleanRead).phase = .cleanRead :=
  ⟨⟨by decide, by decide, by decide, by decide, by decide, by decide, ⟨rfl, rfl⟩⟩, rfl⟩

/-- For `StepKeepsSessionInv` and `SessionKeepsForeignBits`: a step inside a group is taken. -/
theorem witness_session_step : (after (step (inGroup .symRead 15))).isSome = true := by decide

/-- For `HaltedSessionIsIdle`: an empty session has halted after four steps. -/
theorem witness_HaltedSessionIsIdle :
    (match Host.Core.run Sys2Proof.core 4 (State.load Config.reference 0x0B#8 [] false []) with
     | .next s => State.phase s
     | .fault _ => .init
     | .refused _ => .init) = .halt := by decide

/-- A state for each clause, at the ends of its range. -/
theorem witness_StepsRefusedElsewhere :
    base.phase ≠ .halt ∧ (atEnd .done .fetch).state = .done ∧ (atEnd .aborted .symHigh).state = .aborted ∧
    (inGroup .symHigh 16).symbolsSent.val = 16 ∧ (inGroup .pollSecond 15).symbolsSent.val < 16 ∧
    (inGroup .fetch 1).symbolsSent ≠ 0 ∧ (inReplay .fetch 0 1).state = .retransmitting ∧
    (inGroup .retryCheck 0).state = .sendingNew := by decide

end Sys2Proof.Tests
end

/-! The state family (10_state): what every instruction keeps, and the registers after reset. -/

namespace Sys2Proof.Machine

/-! ### What holds of every next state

A rule for each of the shared forms an instruction's meaning has, so that a claim about all instructions is a claim about
their effects. -/

/-- Whatever next state an outcome has, `P` holds of it. -/
def EveryNext (P : State → Prop) (o : Host.Outcome State Fault Refusal) : Prop :=
  ∀ t, o = .next t → P t

theorem everyNext_next {P : State → Prop} {t : State} (h : P t) : EveryNext P (.next t) := by
  rintro u ⟨⟩
  exact h

theorem everyNext_performStep {P : State → Prop} {p : Phase} {s t : State} (h : phaseAllows p s = true → P t) :
    EveryNext P (performStep p s t) := by
  intro u hu
  obtain ⟨he, rfl⟩ := performStep_next.1 hu
  exact h (stepEnabled_iff.1 he).2

theorem everyNext_absorb {P : State → Prop} {ev : Event} {s : State} (h : P (finishCleanup s)) :
    EveryNext P (absorb ev s) := by
  intro u hu
  obtain ⟨-, rfl⟩ := absorb_next.1 hu
  exact h

theorem everyNext_transit {P : State → Prop} {st : CtrlState} {ev : Event} {s t : State} (hc : P (finishCleanup s))
    (h : s.state = st → P t) : EveryNext P (transit st ev s t) := by
  intro u hu
  obtain ⟨⟨hs, -⟩, rfl⟩ | ⟨-, -, rfl⟩ := transit_next.1 hu
  · exact h hs
  · exact hc

/-! ### The registers most operations leave alone -/

/-- The part of the state that no operation of the port, the codec, the transmitter or the monitor writes. -/
structure Records where
  cfg : Config
  requests : List Request
  state : CtrlState
  cause : Cause
  packet : Word
  checksum : Byte

/-- That part of a state. -/
def State.records (s : State) : Records :=
  { cfg := s.cfg, requests := s.requests, state := s.state, cause := s.cause, packet := s.packet, checksum := s.checksum }

theorem records_readIn (s : State) : (readIn s).2.records = s.records := by
  simp [State.records]

theorem records_takeByte (s : State) : (takeByte s).2.records = s.records := by
  simp [State.records]

theorem records_pollResponse (s : State) : (pollResponse s).2.records = s.records := by
  simp [State.records]

theorem records_pollResponse_presentSamples (samples : List Bool) (s : State) :
    (pollResponse (presentSamples samples s)).2.records = s.records :=
  records_pollResponse (presentSamples samples s)

theorem records_sendGroup (s : State) : (sendGroup s).records = s.records := by
  simp [State.records]

theorem records_finishCleanup (s : State) : (finishCleanup s).records = s.records := by
  rw [finishCleanup_eq]
  rfl

/-! ### What every instruction keeps (10_state R21, R22, R27) -/

/-- What every instruction keeps: the configuration and the pending requests, and `cause` unless it enters `ABORTED`. -/
structure KeepsSetup (s t : State) : Prop where
  cfg : t.cfg = s.cfg
  requests : t.requests = s.requests
  cause : t.cause = s.cause ∨ (s.state ≠ .aborted ∧ t.state = .aborted)

/-- What every instruction but `SN_BYTE`, `STEP_FETCH` and `ENCODE` keeps beside it. -/
structure KeepsFrame (s t : State) : Prop extends KeepsSetup s t where
  packet : t.packet = s.packet
  checksum : t.checksum = s.checksum

theorem KeepsFrame.of_records {s t : State} (h : t.records = s.records) : KeepsFrame s t where
  cfg := congrArg Records.cfg h
  requests := congrArg Records.requests h
  cause := .inl (congrArg Records.cause h)
  packet := congrArg Records.packet h
  checksum := congrArg Records.checksum h

/-- An operation that leaves the records alone may come first. -/
theorem KeepsFrame.after {s s' t : State} (hr : s'.records = s.records) (h : KeepsFrame s' t) : KeepsFrame s t where
  cfg := h.cfg.trans (congrArg Records.cfg hr)
  requests := h.requests.trans (congrArg Records.requests hr)
  cause := by
    have hc : s'.cause = s.cause := congrArg Records.cause hr
    have hs : s'.state = s.state := congrArg Records.state hr
    simpa only [hc, hs] using h.cause
  packet := h.packet.trans (congrArg Records.packet hr)
  checksum := h.checksum.trans (congrArg Records.checksum hr)

theorem keepsFrame_finishCleanup (s : State) : KeepsFrame s (finishCleanup s) :=
  .of_records (records_finishCleanup s)

theorem keepsFrame_takeAbort (c : Cause) {s : State} (h : s.state ≠ .aborted) : KeepsFrame s (takeAbort c s) :=
  ⟨⟨rfl, rfl, .inr ⟨h, rfl⟩⟩, rfl, rfl⟩

theorem keepsFrame_exceedBound {s : State} (h : s.state ≠ .aborted) : KeepsFrame s (exceedBound s) :=
  .after (s' := countRetry s) rfl (keepsFrame_takeAbort .retryBoundExceeded h)

theorem keepsFrame_answerPoll (c : Classification) {s : State} (h : s.state ≠ .aborted) :
    KeepsFrame s (answerPoll c s) := by
  cases c with
  | ack | nack => exact ⟨⟨rfl, rfl, .inl rfl⟩, rfl, rfl⟩
  | timeout => exact keepsFrame_takeAbort .linkTimeout h

theorem keepsFrame_poll (c : Classification) {s : State} (h : s.state ≠ .aborted) :
    KeepsFrame s (answerPoll c (readIn s).2) :=
  .after (records_readIn s) (keepsFrame_answerPoll c (by simpa using h))

/-- A state that is not terminal is not `ABORTED`. -/
theorem ne_aborted_of_not_terminal {st : CtrlState} (h : terminal st = false) : st ≠ .aborted := by
  rintro rfl
  cases h

/-- The "requires" clause of a poll step excludes `ABORTED` (44_retry_controller R141, R143). -/
theorem ne_aborted_of_poll_allowed {s : State} (h : (!terminal s.state && decide (s.symbolsSent.val = 16)) = true) :
    s.state ≠ .aborted :=
  ne_aborted_of_not_terminal (by simp at h; exact h.1)

/-- The frame of the whole instruction set: the encoder's registers are `ENCODE`'s, `SN_BYTE`'s and `STEP_FETCH`'s. -/
theorem exec_keepsFrame (i : Instr) (s : State) (hf : i ≠ .stepFetch) (hb : ∀ b, i ≠ .snByte b)
    (he : ∀ b, i ≠ .encode b) : EveryNext (KeepsFrame s) (exec i s) := by
  have hc := keepsFrame_finishCleanup s
  cases i with
  | stepFetch => exact absurd rfl hf
  | snByte b => exact absurd rfl (hb b)
  | encode b => exact absurd rfl (he b)
  | splitByte | joinSymbols | packSymbol | extractSymbol | symbolOfPacket | parseBitPair00 | parseBitPair01
  | parseBitPair10 | parseBitPair11 | formatBitPair0 | formatBitPair1 | formatBitPair2 | formatBitPair3
  | sendSymbolHigh | sendSymbolLow | idleLines
  | readOutputRegister | writeOutputRegister | configureDirection | delay => exact everyNext_next (.of_records rfl)
  | sampleResponse | readInputRegister => exact everyNext_next (.of_records (records_readIn s))
  | pollTimeout => exact everyNext_next (.of_records (records_pollResponse_presentSamples [false] s))
  | pollNack => exact everyNext_next (.of_records (records_pollResponse_presentSamples [true, false] s))
  | pollAck => exact everyNext_next (.of_records (records_pollResponse_presentSamples [true, true] s))
  | nextByte =>
    have hr := records_takeByte s
    refine everyNext_next (.of_records ?_)
    revert hr
    obtain ⟨_ | b, s1⟩ := takeByte s <;> exact id
  | snEos | snAck | snNack | rtAck | rtNack =>
    exact everyNext_transit hc fun _ => ⟨⟨rfl, rfl, .inl rfl⟩, rfl, rfl⟩
  | snTimeout | snMalformed | rtTimeout =>
    exact everyNext_transit hc fun hs => keepsFrame_takeAbort _ (by simp [hs])
  | rtBoundOk => exact everyNext_transit hc fun _ => .of_records (records_sendGroup (beginReplay s))
  | rtBoundExceeded => exact everyNext_transit hc fun hs => keepsFrame_exceedBound (by simp [hs])
  | doneAny | abortedAny => exact everyNext_absorb hc
  | stepInit | stepSymRead | stepSymHigh | stepSymHold | stepSymLow | stepPollSettle | stepCleanRead | stepCleanWrite
  | stepHalt => exact everyNext_performStep fun _ => .of_records rfl
  | stepPollFirst =>
    refine everyNext_performStep fun h => ?_
    split
    · exact .of_records (records_readIn s)
    · exact keepsFrame_poll .timeout (ne_aborted_of_poll_allowed h)
  | stepPollSecond => exact everyNext_performStep fun h => keepsFrame_poll _ (ne_aborted_of_poll_allowed h)
  | stepRetryCheck =>
    refine everyNext_performStep fun h => ?_
    have hs : s.state = .retransmitting := of_decide_eq_true h
    split
    · exact keepsFrame_exceedBound (by simp [hs])
    · exact .of_records rfl

/-- The state after `FETCH` (44_retry_controller R136). -/
def afterFetch (s : State) : State :=
  match (takeByte s).1 with
  | some b => beginPacket b (takeByte s).2
  | none => endSession (takeByte s).2

theorem execStepFetch_eq (s : State) : execStepFetch s = performStep .fetch s (afterFetch s) := by
  unfold execStepFetch afterFetch
  obtain ⟨_ | b, s1⟩ := takeByte s <;> rfl

theorem keepsSetup_afterFetch (s : State) : KeepsSetup s (afterFetch s) := by
  unfold afterFetch
  split <;> exact ⟨takeByte_snd_cfg s, takeByte_snd_requests s, .inl (takeByte_snd_cause s)⟩

theorem exec_keepsSetup (i : Instr) (s : State) : EveryNext (KeepsSetup s) (exec i s) := by
  by_cases hf : i = .stepFetch
  · rw [hf, exec, execStepFetch_eq]
    exact everyNext_performStep fun _ => keepsSetup_afterFetch s
  by_cases hb : ∃ b, i = .snByte b
  · obtain ⟨b, rfl⟩ := hb
    exact everyNext_transit (keepsFrame_finishCleanup s).toKeepsSetup fun _ =>
      ⟨sendGroup_cfg _, sendGroup_requests _, .inl (sendGroup_cause _)⟩
  by_cases he : ∃ b, i = .encode b
  · obtain ⟨b, rfl⟩ := he
    exact everyNext_next ⟨rfl, rfl, .inl rfl⟩
  exact fun t ht => (exec_keepsFrame i s hf (not_exists.1 hb) (not_exists.1 he) t ht).toKeepsSetup

/-- Settles O51: an instruction keeps `cause` or enters `ABORTED`. -/
theorem causeWrittenOnAbort : Obligations.CauseWrittenOnAbort := by
  intro s t i h
  exact (exec_keepsSetup i s t h).cause

/-- Settles O52: `ENCODE` writes the checksum alone, and any other instruction has the frame `KeepsFrame`. -/
theorem encoderOwnsChecksum : Obligations.EncoderOwnsChecksum := by
  intro s t i h
  refine ⟨(exec_keepsSetup i s t h).cfg, (exec_keepsSetup i s t h).requests, fun hf hb => ?_⟩
  by_cases he : ∃ b, i = .encode b
  · obtain ⟨b, rfl⟩ := he
    obtain rfl := Host.Outcome.next.inj h
    exact ⟨rfl, fun hne => absurd rfl (hne b)⟩
  · have hk := exec_keepsFrame i s hf hb (not_exists.1 he) t h
    exact ⟨hk.packet, fun _ => hk.checksum⟩

/-- Settles O50: each register by the literal of `State.load`. -/
theorem resetValues : Obligations.ResetValues := by
  refine ⟨?_, rfl, rfl⟩
  rintro cfg outInit src endless answers s rfl
  simp [State.load]

end Sys2Proof.Machine

/-! The invariant of a session (10_state R33) is kept by every step: the step is the effect of the phase, and each phase's
effect leads from that phase's clause of `PhaseInv` to the next phase's. -/

namespace Sys2Proof.Machine

/-! ### The step of a session is the effect of its phase -/

/-- The effect of the step of phase `p` (44_retry_controller R135 to R147). -/
def phaseEffect (p : Phase) (s : State) : State :=
  match p with
  | .init => sessionStart s
  | .fetch => afterFetch s
  | .symRead => symRead s
  | .symHigh => symHigh s
  | .symHold => symHold s
  | .symLow => symLow s
  | .pollFirst =>
    if responseHigh s.cfg (readIn s).1 then { (readIn s).2 with phase := .pollSettle }
    else answerPoll .timeout (readIn s).2
  | .pollSettle => { delayFor s.cfg.responseSettle s with phase := .pollSecond }
  | .pollSecond => answerPoll (classifySecond (responseHigh s.cfg (readIn s).1)) (readIn s).2
  | .retryCheck => if boundExceeded s.cfg (s.retryCount + 1) then exceedBound s else beginReplay s
  | .cleanRead => { loadIdle s with phase := .cleanWrite }
  | .cleanWrite => { writeOut s.outHold s with phase := .halt }
  | .halt => s

theorem exec_phaseInstr (p : Phase) (s : State) : exec (phaseInstr p) s = performStep p s (phaseEffect p s) := by
  cases p with
  | fetch => exact execStepFetch_eq s
  | init | symRead | symHigh | symHold | symLow | pollFirst | pollSettle | pollSecond | retryCheck | cleanRead
  | cleanWrite | halt => rfl

/-- With nothing asked from outside, the step performs the effect of the phase, where that phase allows it. -/
theorem step_quiet_next {s t : State} (h : s.requests = []) :
    step s = .next t ↔ phaseAllows s.phase s = true ∧ t = phaseEffect s.phase s := by
  rw [step_quiet h, exec_phaseInstr, performStep_next, stepEnabled_iff]
  simp

/-! ### The clauses of the invariant -/

/-- The clauses of `SessionInv` beside the place, for a session that has not been aborted. -/
theorem SessionInv.of_noCause {t : State} (hq : t.requests = []) (hs : t.state ≠ .aborted) (hc : t.cause = .none)
    (hr : t.retryCount ≤ t.cfg.maxRetry) (hk : t.checksum = sumOfBytes t.trace) (hp : PhaseInv t) : SessionInv t where
  quiet := hq
  abortedIffCause := by simp [hs, hc]
  causeKind := .inl hc
  retryBound := by omega
  retryTop := by simp [hc]; omega
  checksumIsSum := hk
  place := hp

/-- Only an aborted session has a cause (R33 item g). -/
theorem SessionInv.cause_none {s : State} (h : SessionInv s) (hs : s.state ≠ .aborted) : s.cause = .none :=
  not_not.1 fun hc => hs (h.abortedIffCause.2 hc)

/-- A step that leaves the records, the retry count and the bytes taken alone has only its place to account for. -/
theorem SessionInv.carry {s t : State} (h : SessionInv s) (hr : t.records = s.records)
    (hn : t.retryCount = s.retryCount) (hb : sumOfBytes t.trace = sumOfBytes s.trace) (hp : PhaseInv t) :
    SessionInv t := by
  simp only [State.records, Records.mk.injEq] at hr
  obtain ⟨hcfg, hreq, hst, hcause, -, hsum⟩ := hr
  refine ⟨?_, ?_, ?_, ?_, ?_, ?_, hp⟩
  · rw [hreq, h.quiet]
  · rw [hst, hcause, h.abortedIffCause]
  · rw [hcause]; exact h.causeKind
  · rw [hn, hcfg]; exact h.retryBound
  · rw [hn, hcfg, hcause, h.retryTop]
  · rw [hsum, hb, h.checksumIsSum]

/-- Entering `ABORTED` with the retry count the cause asks for. -/
theorem sessionInv_takeAbort {s : State} {c : Cause} (hq : s.requests = []) (hk : s.checksum = sumOfBytes s.trace)
    (hc : (c = .linkTimeout ∧ s.retryCount ≤ s.cfg.maxRetry) ∨
      (c = .retryBoundExceeded ∧ s.retryCount = s.cfg.maxRetry + 1)) :
    SessionInv (takeAbort c s) := by
  refine ⟨hq, ?_, ?_, s.retryBounded, ?_, hk, ?_⟩
  all_goals simp only [takeAbort]
  · obtain ⟨rfl, -⟩ | ⟨rfl, -⟩ := hc <;> simp
  · exact .inr (hc.imp And.left And.left)
  · obtain ⟨rfl, hr⟩ | ⟨rfl, hr⟩ := hc
    · simp; omega
    · simp [hr]
  · simp [PhaseInv, terminal]

/-! ### A group in progress -/

theorem InAttempt.not_aborted {s : State} (h : InAttempt s) : s.state ≠ .aborted := by
  obtain ⟨-, ⟨hs, -⟩ | ⟨hs, -⟩⟩ := h <;> simp [hs]

theorem InAttempt.retryCount_le {s : State} (h : InAttempt s) : s.retryCount ≤ s.cfg.maxRetry := by
  obtain ⟨-, ⟨-, hr⟩ | ⟨-, -, hr, -⟩⟩ := h <;> omega

/-- A first attempt takes the due symbol from `packet`, a replay from `package`, which then is the packet (R33 item i). -/
theorem InAttempt.dueSymbol_eq {s : State} (h : InAttempt s) :
    dueSymbol s = extractSymbol s.packet (dueIndex s.symbolsSent) := by
  obtain ⟨-, ⟨hs, -⟩ | ⟨hs, -, -, hp⟩⟩ := h
  · simp [dueSymbol, hs, symbolOfPacket_eq_extractSymbol]
  · simp [dueSymbol, hs, hp]

/-- An attempt goes on while `package` changes on a first attempt only. -/
theorem InAttempt.carry {s t : State} (h : InAttempt s) (hr : t.records = s.records)
    (hn : t.retryCount = s.retryCount) (hp : s.state = .retransmitting → t.package = s.package) : InAttempt t := by
  simp only [State.records, Records.mk.injEq] at hr
  obtain ⟨hcfg, -, hst, -, hpkt, hsum⟩ := hr
  obtain ⟨hpacket, ⟨hs, h0⟩ | ⟨hs, h1, hm, hpp⟩⟩ := h
  · exact ⟨by rw [hpkt, hsum, ← hpacket], .inl ⟨by rw [hst, hs], by rw [hn, h0]⟩⟩
  · exact ⟨by rw [hpkt, hsum, ← hpacket],
      .inr ⟨by rw [hst, hs], by rwa [hn], by rwa [hn, hcfg], by rw [hp hs, hpkt, hpp]⟩⟩

/-- After sixteen symbols `package` is the packet, on a first attempt and on a replay (10_state R23). -/
theorem InAttempt.package_eq {s : State} (h : InAttempt s) (hk : Packed s 16) : s.package = s.packet := by
  obtain ⟨-, ⟨hs, -⟩ | ⟨-, -, -, hp⟩⟩ := h
  · simpa using hk hs
  · exact hp

/-- Reading a symbol packs it on a first attempt (44_retry_controller R137). -/
theorem packed_symRead {s : State} (h : InAttempt s) (hlt : s.symbolsSent.val < 16)
    (hk : Packed s s.symbolsSent.val) : Packed (symRead s) (s.symbolsSent.val + 1) := by
  intro hs
  have hs : s.state = .sendingNew := hs
  show packageAfterRead s = s.packet >>> (32 - 2 * (s.symbolsSent.val + 1))
  have hstep := packSymbol_prefix s.packet (dueIndex s.symbolsSent)
  rw [dueIndex_val _ hlt] at hstep
  rw [packageAfterRead, hs, h.dueSymbol_eq, hk hs]
  exact hstep

/-! ### What the answer of a poll leads to (44_retry_controller R123 to R129) -/

theorem sessionInv_answerPoll {s : State} (h : SessionInv s) (ha : InAttempt s) (hk : Packed s 16) (hc : ClockLow s)
    (c : Classification) : SessionInv (answerPoll c s) := by
  have hnone := h.cause_none ha.not_aborted
  cases c with
  | ack =>
    exact .of_noCause h.quiet (by simp [answerPoll, acknowledge]) hnone (Nat.zero_le _) h.checksumIsSum
      ⟨rfl, rfl, rfl, rfl⟩
  | nack =>
    exact .of_noCause h.quiet (by simp [answerPoll, negative]) hnone ha.retryCount_le h.checksumIsSum
      ⟨rfl, rfl, ha.retryCount_le, ha.package_eq hk, ha.1, hc⟩
  | timeout => exact sessionInv_takeAbort h.quiet h.checksumIsSum (.inl ⟨rfl, ha.retryCount_le⟩)

/-! ### A read of `IN` is not seen by the invariant -/

theorem phaseInv_readIn {s : State} (h : PhaseInv s) : PhaseInv (readIn s).2 := by
  simpa [PhaseInv, InAttempt, Packed, ClockLow, LinesIdle] using h

theorem sessionInv_readIn {s : State} (h : SessionInv s) : SessionInv (readIn s).2 :=
  h.carry (records_readIn s) (readIn_snd_retryCount s) (by simp [sumOfBytes]) (phaseInv_readIn h.place)

/-! ### The effect of each phase -/

theorem sessionInv_init {s : State} (h : SessionInv s) (hp : s.phase = .init) : SessionInv (sessionStart s) := by
  have hplace := h.place
  simp only [PhaseInv, hp] at hplace
  exact h.carry rfl rfl rfl hplace

/-- A packet is begun with nothing packed, and its checksum counts the byte just taken (44_retry_controller R136). -/
theorem sessionInv_beginPacket {s : State} {b : Byte} (hq : s.requests = []) (hs : s.state = .sendingNew)
    (hc : s.cause = .none) (hn : s.symbolsSent = 0) (hr : s.retryCount = 0) (hpkg : s.package = 0#32)
    (hsum : s.checksum + b = sumOfBytes s.trace) : SessionInv (beginPacket b s) := by
  have hpacket : packetOf b (s.checksum + b) =
      packetOf (byteOfPacket (packetOf b (s.checksum + b)) 1) (s.checksum + b) := by rw [byteOfPacket_packetOf]
  have hpacked : Packed (beginPacket b s) s.symbolsSent.val := by
    intro _
    rw [hn]
    exact hpkg.trans (BitVec.ushiftRight_eq_zero (by simp)).symm
  have hplace : PhaseInv (beginPacket b s) :=
    ⟨⟨hpacket, .inl ⟨hs, hr⟩⟩, by simp [beginPacket_eq, hn], hpacked, fun hne => absurd hn hne⟩
  exact .of_noCause hq (by simp [beginPacket_eq, hs]) hc (hr.trans_le (Nat.zero_le _)) hsum hplace

theorem sessionInv_fetch {s : State} (h : SessionInv s) (hp : s.phase = .fetch) : SessionInv (afterFetch s) := by
  have hplace := h.place
  simp only [PhaseInv, hp] at hplace
  obtain ⟨hs, hn, hr, hpkg⟩ := hplace
  have hnone := h.cause_none (by simp [hs])
  unfold afterFetch
  split
  next b hb =>
    apply sessionInv_beginPacket <;> simp [hb, sumOfBytes, h.quiet, h.checksumIsSum, hs, hn, hr, hpkg, hnone]
  next hb =>
    have hsum : (takeByte s).2.checksum = sumOfBytes (takeByte s).2.trace := by simp [hb, sumOfBytes, h.checksumIsSum]
    exact .of_noCause (by simp [endSession, h.quiet]) (by simp [endSession]) (by simp [endSession, hnone])
      (by simp [endSession, hr]) hsum ⟨rfl, by simp [endSession, hn]⟩

theorem sessionInv_symRead {s : State} (h : SessionInv s) (hp : s.phase = .symRead) : SessionInv (symRead s) := by
  have hplace := h.place
  simp only [PhaseInv, hp] at hplace
  obtain ⟨ha, hlt, hk, -⟩ := hplace
  have hpkg : s.state = .retransmitting → (symRead s).package = s.package := fun hs => by
    simp [symRead, packageAfterRead, hs]
  have hhold : (symRead s).outHold = strobeHigh s.cfg s.out (extractSymbol s.packet (dueIndex s.symbolsSent)) := by
    rw [← ha.dueSymbol_eq]
    rfl
  exact h.carry rfl rfl rfl ⟨ha.carry rfl rfl hpkg, hlt, packed_symRead ha hlt hk, hhold⟩

theorem sessionInv_symHigh {s : State} (h : SessionInv s) (hp : s.phase = .symHigh) : SessionInv (symHigh s) := by
  have hplace := h.place
  simp only [PhaseInv, hp] at hplace
  obtain ⟨ha, hlt, hk, hhold⟩ := hplace
  have hidem : s.outHold = strobeHigh s.cfg s.outHold (extractSymbol s.packet (dueIndex s.symbolsSent)) := by
    rw [hhold, strobeHigh_idem]
  exact h.carry rfl rfl rfl ⟨ha.carry rfl rfl fun _ => rfl, hlt, hk, rfl, hidem⟩

theorem sessionInv_symHold {s : State} (h : SessionInv s) (hp : s.phase = .symHold) : SessionInv (symHold s) := by
  have hplace := h.place
  simp only [PhaseInv, hp] at hplace
  obtain ⟨ha, hplace⟩ := hplace
  exact h.carry rfl rfl rfl ⟨ha.carry rfl rfl fun _ => rfl, hplace⟩

theorem sessionInv_symLow {s : State} (h : SessionInv s) (hp : s.phase = .symLow) : SessionInv (symLow s) := by
  have hplace := h.place
  simp only [PhaseInv, hp] at hplace
  obtain ⟨ha, hlt, hk, -, -⟩ := hplace
  have ha' : InAttempt (symLow s) := ha.carry rfl rfl fun _ => rfl
  have hn : (symLow s).symbolsSent.val = s.symbolsSent.val + 1 := countUp_val _ hlt
  have hk' : Packed (symLow s) (symLow s).symbolsSent.val := by rw [hn]; exact hk
  have hclock : ClockLow (symLow s) := strobeLow_clock s.cfg s.outHold
  refine h.carry rfl rfl rfl ?_
  have hphase : (symLow s).phase = if (symLow s).symbolsSent.val = 16 then .pollFirst else .symRead := rfl
  by_cases h16 : (symLow s).symbolsSent.val = 16
  · rw [if_pos h16] at hphase
    simp only [PhaseInv, hphase]
    exact ⟨ha', h16, h16 ▸ hk', hclock⟩
  · rw [if_neg h16] at hphase
    simp only [PhaseInv, hphase]
    exact ⟨ha', by omega, hk', fun _ => hclock⟩

theorem sessionInv_pollFirst {s : State} (h : SessionInv s) (hp : s.phase = .pollFirst) :
    SessionInv (phaseEffect .pollFirst s) := by
  have hread := sessionInv_readIn h
  have hplace := hread.place
  simp only [PhaseInv, readIn_snd_phase, hp] at hplace
  obtain ⟨ha, h16, hk, hclock⟩ := hplace
  simp only [phaseEffect]
  split
  · exact hread.carry rfl rfl rfl ⟨ha.carry rfl rfl fun _ => rfl, h16, hk, hclock⟩
  · exact sessionInv_answerPoll hread ha hk hclock .timeout

theorem sessionInv_pollSettle {s : State} (h : SessionInv s) (hp : s.phase = .pollSettle) :
    SessionInv (phaseEffect .pollSettle s) := by
  have hplace := h.place
  simp only [PhaseInv, hp] at hplace
  obtain ⟨ha, hplace⟩ := hplace
  exact h.carry rfl rfl rfl ⟨ha.carry rfl rfl fun _ => rfl, hplace⟩

theorem sessionInv_pollSecond {s : State} (h : SessionInv s) (hp : s.phase = .pollSecond) :
    SessionInv (phaseEffect .pollSecond s) := by
  have hread := sessionInv_readIn h
  have hplace := hread.place
  simp only [PhaseInv, readIn_snd_phase, hp] at hplace
  obtain ⟨ha, -, hk, hclock⟩ := hplace
  exact sessionInv_answerPoll hread ha hk hclock _

/-- The retry check (44_retry_controller R144): the retry past `MAX_RETRY` aborts, any other begins a replay. -/
theorem sessionInv_retryCheck {s : State} (h : SessionInv s) (hp : s.phase = .retryCheck) :
    SessionInv (phaseEffect .retryCheck s) := by
  have hplace := h.place
  simp only [PhaseInv, hp] at hplace
  obtain ⟨hs, hn, hr, hpkg, hpacket, hclock⟩ := hplace
  have hnone := h.cause_none (by simp [hs])
  simp only [phaseEffect]
  split
  next hb =>
    have hb : s.retryCount + 1 > s.cfg.maxRetry := of_decide_eq_true hb
    exact sessionInv_takeAbort h.quiet h.checksumIsSum (.inr ⟨rfl, by rw [countRetry_retryCount, countRetry_cfg]; omega⟩)
  next hb =>
    have hb : s.retryCount + 1 ≤ s.cfg.maxRetry := by simpa [boundExceeded] using hb
    have hcount : (beginReplay s).retryCount = s.retryCount + 1 := Nat.min_eq_left (by omega)
    have hle : (beginReplay s).retryCount ≤ (beginReplay s).cfg.maxRetry := hcount.trans_le hb
    have hnew : (beginReplay s).state ≠ .sendingNew := by simp [beginReplay, hs]
    refine .of_noCause h.quiet (by simp [beginReplay, hs]) hnone hle h.checksumIsSum
      ⟨⟨hpacket, .inr ⟨hs, by omega, hle, hpkg⟩⟩, ?_, fun hst => absurd hst hnew, fun _ => hclock⟩
    simp [beginReplay, hn]

theorem sessionInv_cleanRead {s : State} (h : SessionInv s) (hp : s.phase = .cleanRead) :
    SessionInv (phaseEffect .cleanRead s) := by
  have hplace := h.place
  simp only [PhaseInv, hp] at hplace
  obtain ⟨hterm, hn⟩ := hplace
  exact h.carry rfl rfl rfl ⟨hterm, hn, rfl⟩

theorem sessionInv_cleanWrite {s : State} (h : SessionInv s) (hp : s.phase = .cleanWrite) :
    SessionInv (phaseEffect .cleanWrite s) := by
  have hplace := h.place
  simp only [PhaseInv, hp] at hplace
  obtain ⟨hterm, hn, hhold⟩ := hplace
  have hidle : s.outHold &&& drivenMask s.cfg = 0#8 := by rw [hhold, idleByte_driven]
  exact h.carry rfl rfl rfl ⟨hterm, hn, hidle⟩

/-- Every phase's effect keeps the invariant. -/
theorem sessionInv_phaseEffect {s : State} (h : SessionInv s) : SessionInv (phaseEffect s.phase s) := by
  cases hp : s.phase with
  | init => exact sessionInv_init h hp
  | fetch => exact sessionInv_fetch h hp
  | symRead => exact sessionInv_symRead h hp
  | symHigh => exact sessionInv_symHigh h hp
  | symHold => exact sessionInv_symHold h hp
  | symLow => exact sessionInv_symLow h hp
  | pollFirst => exact sessionInv_pollFirst h hp
  | pollSettle => exact sessionInv_pollSettle h hp
  | pollSecond => exact sessionInv_pollSecond h hp
  | retryCheck => exact sessionInv_retryCheck h hp
  | cleanRead => exact sessionInv_cleanRead h hp
  | cleanWrite => exact sessionInv_cleanWrite h hp
  | halt => exact h

/-- Settles O53: after reset no cause is set and the empty trace sums to `CHECKSUM_INIT`, in phase `INIT`. -/
theorem loadedMeetsSessionInv : Obligations.LoadedMeetsSessionInv := by
  intro cfg outInit src endless answers
  exact .of_noCause rfl (by simp [State.load]) rfl (Nat.zero_le _) rfl ⟨rfl, rfl, rfl, rfl⟩

/-- Settles O54: the step of a session is the effect of its phase, and every phase's effect keeps the invariant. -/
theorem stepKeepsSessionInv : Obligations.StepKeepsSessionInv := by
  intro s t h hstep
  obtain ⟨-, rfl⟩ := (step_quiet_next h.quiet).1 hstep
  exact sessionInv_phaseEffect h

end Sys2Proof.Machine

/-! The memory family (20_memory): of a sample of `IN` the response bit alone decides (R41), and a replay is decided by
`package` alone (R55). -/

namespace Sys2Proof.Machine

/-! ### A sample of `IN` -/

/-- The state after the sample `v`, with the answers `rest` still to come. -/
def afterSample (v : Byte) (rest : List Byte) (s : State) : State :=
  { s with inAnswers := rest, inReads := s.inReads + 1, trace := .ri v :: s.trace }

/-- A read takes the answer that was laid out first (45_port_primitives R150). -/
theorem readIn_cons (s : State) (v : Byte) (rest : List Byte) :
    readIn { s with inAnswers := v :: rest } = (v, afterSample v rest s) := rfl

/-- `SAMPLE_RESPONSE` answers the level of the response line (43_response_monitor R110). -/
theorem exec_sampleResponse_cons (s : State) (v : Byte) (rest : List Byte) :
    exec .sampleResponse { s with inAnswers := v :: rest } =
      .next (answerWith (.level (responseHigh s.cfg v)) (afterSample v rest s)) := rfl

/-- Samples that agree in the response bit are read the same (30_encoding R64). -/
theorem responseHigh_congr {c : Config} {v w : Byte}
    (h : v.getLsbD c.pins.responseBit.val = w.getLsbD c.pins.responseBit.val) : responseHigh c v = responseHigh c w := by
  rw [responseHigh_eq, responseHigh_eq, h]

/-- What an answer does neither reads nor writes the trace. -/
theorem answerPoll_trace (c : Classification) (s : State) (tr : List Transaction) :
    answerPoll c { s with trace := tr } = { answerPoll c s with trace := tr } := by
  cases c <;> rfl

/-- A step that samples depends on the sample through its response bit; the byte itself goes to the trace alone. -/
theorem phaseEffect_sample {s : State} {v w : Byte} {rest : List Byte} {p : Phase} (hp : p = .pollFirst ∨ p = .pollSecond)
    (h : responseHigh s.cfg v = responseHigh s.cfg w) :
    phaseEffect p { s with inAnswers := w :: rest } =
      { phaseEffect p { s with inAnswers := v :: rest } with trace := .ri w :: s.trace } := by
  obtain rfl | rfl := hp
  · cases hw : responseHigh s.cfg w <;> simp only [phaseEffect, readIn_cons, h, hw]
    case true => rfl
    case false => exact answerPoll_trace .timeout (afterSample v rest s) (.ri w :: s.trace)
  · simp only [phaseEffect, readIn_cons, h]
    exact answerPoll_trace _ (afterSample v rest s) (.ri w :: s.trace)

/-- Whether a step is enabled does not depend on what `IN` will answer, so its effect decides. -/
theorem exec_phaseInstr_sample {s t : State} {v w : Byte} {rest : List Byte} {p : Phase}
    (hp : p = .pollFirst ∨ p = .pollSecond) (h : responseHigh s.cfg v = responseHigh s.cfg w)
    (ht : exec (phaseInstr p) { s with inAnswers := v :: rest } = .next t) :
    exec (phaseInstr p) { s with inAnswers := w :: rest } = .next { t with trace := .ri w :: s.trace } := by
  rw [exec_phaseInstr, performStep_next, stepEnabled_iff] at ht ⊢
  obtain ⟨⟨hphase, hallows⟩, rfl⟩ := ht
  refine ⟨⟨hphase, ?_⟩, (phaseEffect_sample hp h).symm⟩
  obtain rfl | rfl := hp <;> exact hallows

/-- Settles O23: each of the three instructions uses the sample as `responseHigh` alone. -/
theorem onlyResponseBitCounts : Obligations.OnlyResponseBitCounts := by
  intro s t v w rest i hbit hi ht
  have hhigh := responseHigh_congr hbit
  obtain rfl | rfl | rfl := hi
  · exact exec_phaseInstr_sample (.inl rfl) hhigh ht
  · exact exec_phaseInstr_sample (.inr rfl) hhigh ht
  · rw [exec_sampleResponse_cons] at ht ⊢
    obtain rfl := Host.Outcome.next.inj ht
    rw [hhigh]
    rfl

/-! ### A replay -/

/-- The state after a replay (44_retry_controller R126): every byte it sends is a function of `package` and `OUT`. -/
def replaySent (s : State) : State :=
  { countRetry s with
      symbolsSent := 16, out := outAfter s.cfg s.package s.out 16, outHold := outAfter s.cfg s.package s.out 16,
      trace := groupTrace s.cfg s.package s.out 16 ++ s.trace, phase := .pollFirst }

theorem sendGroup_beginReplay {s : State} (hs : s.state = .retransmitting) (h0 : s.symbolsSent = 0) :
    sendGroup (beginReplay s) = replaySent s :=
  sendGroup_replay (beginReplay s) hs h0

/-- In `RETRANSMITTING` the row is no terminal state's: it sends the replay, exactly where the bound allows one. -/
theorem exec_rtBoundOk_next {s t : State} (hs : s.state = .retransmitting) :
    exec .rtBoundOk s = .next t ↔ eventOccurs .boundOk s = true ∧ t = replaySent s := by
  have hterm : terminal s.state = false := by rw [hs]; rfl
  have hgroup (hocc : eventOccurs .boundOk s = true) : sendGroup (beginReplay s) = replaySent s := by
    simp only [eventOccurs, Bool.and_eq_true, decide_eq_true_eq] at hocc
    obtain ⟨⟨-, h0⟩, -⟩ := hocc
    exact sendGroup_beginReplay hs h0
  rw [exec, execRtBoundOk, transit_next]
  constructor
  · rintro (⟨⟨-, hocc⟩, rfl⟩ | ⟨-, hdone, -⟩)
    · exact ⟨hocc, hgroup hocc⟩
    · simp [hterm] at hdone
  · rintro ⟨hocc, rfl⟩
    exact .inl ⟨⟨hs, hocc⟩, (hgroup hocc).symm⟩

/-- Settles O45: neither the bound nor `replaySent` reads the packet, the checksum or the byte source. -/
theorem replayIgnoresPacketAndSource : Obligations.ReplayIgnoresPacketAndSource := by
  intro s t w c src e n hs ht
  obtain ⟨hocc, rfl⟩ := (exec_rtBoundOk_next hs).1 ht
  exact (exec_rtBoundOk_next (s := { s with packet := w, checksum := c, source := src, endless := e, taken := n }) hs).2
    ⟨hocc, rfl⟩

end Sys2Proof.Machine

/-! The encoding family (30_encoding): an operation word decodes to the instruction it was laid out from; the words of
`trans5` are the pairs of a state and an event, and a pair without a row is no instruction; a row asked for in another state
than its own is refused. -/

namespace Sys2Proof

/-! ### The row of an instruction's word

A row without operands is one closed word. Of the others, the word fits the operation's width, the extra byte its bound, and
each operand is read back from the bits its format gives it. -/

/-- The word fits the operation's width, the extra operand its bound, and no transition but `SN_BYTE`, whose word is 0, is
given one: then the row decides. -/
theorem decodeOperation_ok {op : Operation} {w : Word} {x : Byte} {i : Instr} (hw : ¬ 2 ^ op.width ≤ w.toNat)
    (hx : x.toNat < op.extraBound) (ht : op = .transition → w = 0#32) (hi : rowOf op w x = .ok i) :
    decodeOperation op w x = .ok i := by
  have ht' : ¬ (op = .transition ∧ w ≠ 0#32 ∧ x ≠ 0#8) := fun ⟨hop, hne, _⟩ => hne (ht hop)
  rw [decodeOperation, if_neg hw, if_neg (Nat.not_le_of_lt hx), if_neg ht', hi]

/-- The four symbols are read back from their byte, the first from the top bits (40_symbol_codec R81). -/
theorem joinWord_symbols (s0 s1 s2 s3 : Symbol) :
    ((s0 ++ s1 ++ s2 ++ s3 : Byte).setWidth 32 : Word).extractLsb' 6 2 = s0 ∧
    ((s0 ++ s1 ++ s2 ++ s3 : Byte).setWidth 32 : Word).extractLsb' 4 2 = s1 ∧
    ((s0 ++ s1 ++ s2 ++ s3 : Byte).setWidth 32 : Word).extractLsb' 2 2 = s2 ∧
    ((s0 ++ s1 ++ s2 ++ s3 : Byte).setWidth 32 : Word).extractLsb' 0 2 = s3 := by
  refine ⟨?_, ?_, ?_, ?_⟩ <;> rw [BitVec.extractLsb'_setWidth_of_le (by decide)]
  · iterate 3 rw [BitVec.extractLsb'_append_eq_of_le (by decide)]
    exact BitVec.extractLsb'_eq_self
  · iterate 2 rw [BitVec.extractLsb'_append_eq_of_le (by decide)]
    exact BitVec.extractLsb'_append_eq_right
  · rw [BitVec.extractLsb'_append_eq_of_le (by decide)]
    exact BitVec.extractLsb'_append_eq_right
  · exact BitVec.extractLsb'_append_eq_right

/-- The package is read back: its top two bits, which `packSymbol` shifts out, from the extra byte, the others from the word
(40_symbol_codec R82). -/
theorem packWord_package (p : Word) (t : Symbol) :
    ((p >>> 30).setWidth 8).setWidth 32 <<< 30 ||| (p <<< 2 ||| t.setWidth 32) >>> 2 = p := by
  ext j hj
  by_cases htop : j < 30
  · grind
  · grind

/-- The symbol `packSymbol` adds is read back from the bottom of its word (40_symbol_codec R82). -/
theorem packWord_symbol (p : Word) (t : Symbol) : (p <<< 2 ||| t.setWidth 32).extractLsb' 0 2 = t := by
  ext j hj
  grind

/-- `packSymbol` shifts two bits out. -/
theorem shiftedOut_lt (p : Word) : ((p >>> 30).setWidth 8).toNat < 4 := by
  have := p.isLt
  simp only [BitVec.toNat_setWidth, BitVec.toNat_ushiftRight, Nat.shiftRight_eq_div_pow]
  omega

/-- An index of 0 to 15 is read back from the extra byte. -/
theorem indexByte_toNat (i : Fin 16) : (BitVec.ofNat 8 i.val).toNat = i.val := by
  rw [BitVec.toNat_ofNat]
  omega

theorem indexByte_lt (i : Fin 16) : (BitVec.ofNat 8 i.val).toNat < 16 := by
  rw [indexByte_toNat]
  exact i.isLt

theorem indexByte_index (i : Fin 16) : Fin.ofNat 16 (BitVec.ofNat 8 i.val).toNat = i := by
  rw [indexByte_toNat]
  exact Fin.ofNat_val_eq_self i

/-- A packet has its start and end bytes, whatever is between them (30_encoding R61). -/
theorem packetOf_pattern (b c : Byte) : Machine.packetOf b c &&& 0xFF0000FF#32 = 0x02000003#32 := by
  have hmask : 0xFF0000FF#32 = 0xFF#8 ++ 0x00#8 ++ 0x00#8 ++ 0xFF#8 := by decide
  rw [hmask, Machine.packetOf, BitVec.and_append, BitVec.and_append, BitVec.and_append, BitVec.and_zero, BitVec.and_zero]
  decide

/-- The payload of a packet is read back from its second byte (30_encoding R61). -/
theorem packetOf_payload (b c : Byte) : (Machine.packetOf b c).extractLsb' 16 8 = b := by
  rw [Machine.packetOf, BitVec.extractLsb'_append_eq_of_le (by decide), BitVec.extractLsb'_append_eq_of_le (by decide)]
  exact BitVec.extractLsb'_append_eq_right

/-- Every instruction is the row of its own word. -/
theorem decodeOperation_parts (i : Instr) (h : i.wf = true) :
    decodeOperation i.parts.1 i.parts.2.1 i.parts.2.2 = .ok i := by
  cases i with
  | splitByte b | writeOutputRegister b | configureDirection b =>
    refine decodeOperation_ok (setWidth_fits 8 b (by decide)) Nat.one_pos nofun ?_
    rw [Instr.parts, rowOf, BitVec.setWidth_setWidth_of_le b (by decide), BitVec.setWidth_eq]
  | joinSymbols s0 s1 s2 s3 =>
    obtain ⟨h0, h1, h2, h3⟩ := joinWord_symbols s0 s1 s2 s3
    refine decodeOperation_ok (setWidth_fits 8 (s0 ++ s1 ++ s2 ++ s3) (by decide)) Nat.one_pos nofun ?_
    simp only [Instr.parts, rowOf, h0, h1, h2, h3]
  | packSymbol p t =>
    refine decodeOperation_ok (word_fits _) (shiftedOut_lt p) nofun ?_
    simp only [Instr.parts, rowOf, packWord_package, packWord_symbol]
  | extractSymbol w index | symbolOfPacket w index =>
    refine decodeOperation_ok (word_fits w) (indexByte_lt index) nofun ?_
    simp only [Instr.parts, rowOf, indexByte_index]
  | encode b =>
    refine decodeOperation_ok (word_fits _) Nat.one_pos nofun ?_
    show rowOf .encode (Machine.packetOf b 0#8) 0#8 = _
    rw [rowOf, if_pos (packetOf_pattern b 0#8), packetOf_payload]
  | snByte b =>
    refine decodeOperation_ok (setWidth_fits 5 0#5 (by decide)) b.isLt (fun _ => rfl) ?_
    simp only [Instr.parts]
    rfl
  | delay n =>
    have hn : n < 2 ^ 32 := of_decide_eq_true h
    refine decodeOperation_ok (word_fits _) Nat.one_pos nofun ?_
    simp only [Instr.parts, rowOf, BitVec.toNat_ofNat, Nat.mod_eq_of_lt hn]
  | sendSymbolHigh t => revert t; decide
  | doneAny e | abortedAny e => cases e <;> rfl
  | parseBitPair00 | parseBitPair01 | parseBitPair10 | parseBitPair11
  | formatBitPair0 | formatBitPair1 | formatBitPair2 | formatBitPair3
  | sendSymbolLow | idleLines | sampleResponse | pollTimeout | pollNack | pollAck
  | snEos | snAck | snNack | snTimeout | snMalformed
  | rtBoundOk | rtBoundExceeded | rtAck | rtNack | rtTimeout
  | stepInit | stepFetch | stepSymRead | stepSymHigh | stepSymHold | stepSymLow | stepPollFirst | stepPollSettle
  | stepPollSecond | stepRetryCheck | stepCleanRead | stepCleanWrite | stepHalt
  | readInputRegister | readOutputRegister | nextByte => rfl

/-- What was encoded is decoded, and the bytes behind it are left. -/
theorem decode_encode (i : Instr) (rest : List Byte) (h : i.wf = true) : decode (encode i ++ rest) = .ok (i, rest) := by
  rw [encode, decode_operationBytes, decodeOperation_parts i h]

/-- Settles O1: every instruction is the row of its own word (`decodeOperation_parts`). -/
theorem decodeAfterEncode : Obligations.DecodeAfterEncode := decode_encode

/-- Settles O2: each word is closed, and the decoder runs on it. -/
theorem specWordsDecode : Obligations.SpecWordsDecode :=
  ⟨rfl, rfl, rfl, rfl, rfl, rfl, rfl, rfl, rfl, rfl⟩

/-! ### The words of `trans5` (30_encoding R76) -/

/-- The word of a pair of state and event. -/
def pairWord (st : CtrlState) (ev : Event) : BitVec 5 := st.code ++ ev.code

/-- The words of the five pairs that have no row (30_encoding R77 item f). -/
def impossiblePairs : List (BitVec 5) := [0b00101#5, 0b00110#5, 0b01000#5, 0b01001#5, 0b01111#5]

/-- All four state codes are used (30_encoding R71). -/
theorem CtrlState.code_surjective : Function.Surjective CtrlState.code := by
  have hcodes : ∀ c : BitVec 2, c = 0b00#2 ∨ c = 0b01#2 ∨ c = 0b10#2 ∨ c = 0b11#2 := by decide
  intro c
  obtain rfl | rfl | rfl | rfl := hcodes c
  exacts [⟨.sendingNew, rfl⟩, ⟨.retransmitting, rfl⟩, ⟨.done, rfl⟩, ⟨.aborted, rfl⟩]

/-- All eight event codes are used (30_encoding R72). -/
theorem code_eventOfCode : ∀ c : BitVec 3, (eventOfCode c).code = c := by decide

/-- Every word of the format is a pair's, so a case split over words is one over states and events. -/
theorem exists_pairWord (w : BitVec 5) : ∃ st ev, w = pairWord st ev := by
  have hsplit : ∀ w : BitVec 5, w = w.extractLsb' 3 2 ++ w.extractLsb' 0 3 := by decide
  obtain ⟨st, hst⟩ := CtrlState.code_surjective (w.extractLsb' 3 2)
  exact ⟨st, eventOfCode (w.extractLsb' 0 3), by rw [pairWord, code_eventOfCode, hst, ← hsplit]⟩

/-- A pair's word names its row, or it is one of the five and is rejected by name. -/
theorem decode_pairWord (st : CtrlState) (ev : Event) :
    (pairWord st ev ∈ impossiblePairs ∧
      decode (operationBytes .transition ((pairWord st ev).setWidth 32) 0#8) = .error .impossiblePair) ∨
    (pairWord st ev ∉ impossiblePairs ∧
      ∃ i, decode (operationBytes .transition ((pairWord st ev).setWidth 32) 0#8) = .ok (i, [])) := by
  cases st with
  | sendingNew =>
    cases ev with
    | boundOk | boundExceeded => exact .inl ⟨by decide, rfl⟩
    | byte | eos | ack | nack | timeout | malformed => exact .inr ⟨by decide, _, rfl⟩
  | retransmitting =>
    cases ev with
    | byte | eos | malformed => exact .inl ⟨by decide, rfl⟩
    | ack | nack | timeout | boundOk | boundExceeded => exact .inr ⟨by decide, _, rfl⟩
  | done => exact .inr ⟨by cases ev <;> decide, .doneAny ev, decode_encode (.doneAny ev) [] rfl⟩
  | aborted => exact .inr ⟨by cases ev <;> decide, .abortedAny ev, decode_encode (.abortedAny ev) [] rfl⟩

/-- Settles O3: every word is a pair's, and of the pairs exactly the five have no row. -/
theorem onlyImpossiblePairsRejected : Obligations.OnlyImpossiblePairsRejected := by
  intro w
  obtain ⟨st, ev, rfl⟩ := exists_pairWord w
  obtain ⟨hmem, herror⟩ | ⟨hmem, hrow⟩ := decode_pairWord st ev
  · exact ⟨fun _ => herror, fun hne => absurd hmem hne⟩
  · exact ⟨fun hin => absurd hin hmem, fun _ => hrow⟩

end Sys2Proof

namespace Sys2Proof.Machine

/-! ### A transition outside its state (30_encoding R76) -/

/-- Outside a terminal state a row of another state is refused, whatever its event and its effect. -/
theorem transit_refused {st : CtrlState} {ev : Event} {s t : State} (hs : s.state ≠ st)
    (ht : terminal s.state = false) : transit st ev s t = .refused (.eventCannotOccur s.state ev) := by
  rw [transit_elsewhere hs, absorb_refused ht]

/-- Settles O34: each row is a `transit` of its own state or an `absorb`. -/
theorem transitionsNeedTheirState : Obligations.TransitionsNeedTheirState := by
  intro s b e
  refine ⟨fun hs p hp => ?_, fun hs p hp => ?_, fun hs => ?_⟩
  · have hrow (ev t) : transit .sendingNew ev s t = .refused (.eventCannotOccur .retransmitting ev) :=
      hs ▸ transit_refused (by simp [hs]) (by rw [hs]; rfl)
    simp only [List.mem_cons, List.not_mem_nil, or_false] at hp
    obtain rfl | rfl | rfl | rfl | rfl | rfl := hp <;> exact hrow _ _
  · have hrow (ev t) : transit .retransmitting ev s t = .refused (.eventCannotOccur .sendingNew ev) :=
      hs ▸ transit_refused (by simp [hs]) (by rw [hs]; rfl)
    simp only [List.mem_cons, List.not_mem_nil, or_false] at hp
    obtain rfl | rfl | rfl | rfl | rfl := hp <;> exact hrow _ _
  · have hterm : terminal s.state = false := by
      obtain hs | hs := hs <;> rw [hs] <;> rfl
    exact ⟨absorb_refused hterm, absorb_refused hterm⟩

end Sys2Proof.Machine

/-! The codec family (40_symbol_codec): every operand form in the concatenation form the spec gives it, the fold of
`packSymbol` read back symbol by symbol, the legal text tokens as exactly the formatted symbols, and where a token is parsed. -/

namespace Sys2Proof.Machine

/-! ### The operand forms as bit fields (R80 to R85) -/

theorem symbolOfByte_eq (b : Byte) (j : Nat) : symbolOfByte b j = b.extractLsb' (6 - 2 * j) 2 :=
  BitVec.setWidth_ushiftRight_eq_extractLsb

theorem extractSymbol_eq (p : Word) (i : Fin 16) : extractSymbol p i = p.extractLsb' (30 - 2 * i.val) 2 :=
  BitVec.setWidth_ushiftRight_eq_extractLsb

theorem byteOfPacket_eq (w : Word) (j : Nat) : byteOfPacket w j = w.extractLsb' (24 - 8 * j) 8 :=
  BitVec.setWidth_ushiftRight_eq_extractLsb

/-- The shift pushes the top pair out, so the 30 bits below it and the symbol make the new word (R82). -/
theorem packSymbol_eq_append (p : Word) (t : Symbol) : packSymbol p t = p.extractLsb' 0 30 ++ t := by
  have hshift : ((p.extractLsb' 0 30).setWidth 32 : Word) <<< 2 = p <<< 2 := by
    ext j hj
    have hlow : j - 2 < 30 := by omega
    simp [hlow, BitVec.getLsbD_eq_getElem (show j - 2 < 32 by omega)]
  calc packSymbol p t = (p.extractLsb' 0 30).setWidth 32 <<< 2 ||| t.setWidth 32 := by rw [hshift, packSymbol]
    _ = (p.extractLsb' 0 30 ++ t).setWidth 32 := BitVec.setWidth_append_eq_shiftLeft_setWidth_or.symm
    _ = p.extractLsb' 0 30 ++ t := BitVec.setWidth_eq _

/-- The concatenation in the spec's shift-and-or form (R81). -/
theorem joinSymbols_eq_or (s0 s1 s2 s3 : Symbol) :
    joinSymbols s0 s1 s2 s3 =
      (s0.setWidth 8 <<< 6) ||| (s1.setWidth 8 <<< 4) ||| (s2.setWidth 8 <<< 2) ||| s3.setWidth 8 :=
  (BitVec.setWidth_eq _).symm.trans BitVec.setWidth_append_append_append_eq_shiftLeft_setWidth_or

/-! ### The operations return their value and change nothing else -/

theorem exec_splitByte (b : Byte) (s : State) :
    exec (.splitByte b) s =
      .next { s with answer := .symbols (symbolOfByte b 0) (symbolOfByte b 1) (symbolOfByte b 2) (symbolOfByte b 3) } := rfl

theorem exec_joinSymbols (s0 s1 s2 s3 : Symbol) (s : State) :
    exec (.joinSymbols s0 s1 s2 s3) s = .next { s with answer := .byte (joinSymbols s0 s1 s2 s3) } := rfl

theorem exec_packSymbol (p : Word) (t : Symbol) (s : State) :
    exec (.packSymbol p t) s = .next { s with answer := .word (packSymbol p t) } := rfl

theorem exec_extractSymbol (p : Word) (i : Fin 16) (s : State) :
    exec (.extractSymbol p i) s = .next { s with answer := .symbol (extractSymbol p i) } := rfl

theorem exec_symbolOfPacket (w : Word) (i : Fin 16) (s : State) :
    exec (.symbolOfPacket w i) s = .next { s with answer := .symbol (symbolOfPacket w i) } := rfl

/-- Settles O7: the four results of `splitByte` as bit fields. -/
theorem splitByteResult : Obligations.SplitByteResult := by
  intro b s
  rw [exec_splitByte, symbolOfByte_eq, symbolOfByte_eq, symbolOfByte_eq, symbolOfByte_eq]

/-- Settles O8: the concatenation in shift-and-or form. -/
theorem joinSymbolsResult : Obligations.JoinSymbolsResult := by
  intro s0 s1 s2 s3 s
  rw [exec_joinSymbols, joinSymbols_eq_or]

/-- Settles O9: the shift in concatenation form. -/
theorem packSymbolResult : Obligations.PackSymbolResult := by
  intro p t s
  rw [exec_packSymbol, packSymbol_eq_append]

/-- Settles O10: the shift as a bit field. -/
theorem extractSymbolResult : Obligations.ExtractSymbolResult := by
  intro p i s
  rw [exec_extractSymbol, extractSymbol_eq]

/-- Settles O11: a bit field of a bit field, which is the symbol `extractSymbol` reads. -/
theorem symbolOfPacketResult : Obligations.SymbolOfPacketResult := by
  intro w i s
  constructor
  · rw [exec_symbolOfPacket, symbolOfPacket, symbolOfByte_eq, byteOfPacket_eq]
  · rw [exec_symbolOfPacket, exec_extractSymbol, symbolOfPacket_eq_extractSymbol]

/-! ### The laws of the codec (R84) -/

/-- Law a: the four bit pairs of a byte make the byte. -/
theorem joinSymbols_symbolOfByte (b : Byte) :
    joinSymbols (symbolOfByte b 0) (symbolOfByte b 1) (symbolOfByte b 2) (symbolOfByte b 3) = b := by
  rw [symbolOfByte_eq, symbolOfByte_eq, symbolOfByte_eq, symbolOfByte_eq]
  show b.extractLsb' 6 2 ++ b.extractLsb' 4 2 ++ b.extractLsb' 2 2 ++ b.extractLsb' 0 2 = b
  rw [BitVec.extractLsb'_append_extractLsb'_eq_extractLsb' (show 6 = 4 + 2 from rfl),
    BitVec.extractLsb'_append_extractLsb'_eq_extractLsb' (show 4 = 2 + 2 from rfl),
    BitVec.extractLsb'_append_extractLsb'_eq_extractLsb' (show 2 = 0 + 2 from rfl)]
  exact BitVec.extractLsb'_eq_self

/-- Law b: the four symbols of a byte are read back. -/
theorem symbolOfByte_joinSymbols (s0 s1 s2 s3 : Symbol) :
    symbolOfByte (joinSymbols s0 s1 s2 s3) 0 = s0 ∧ symbolOfByte (joinSymbols s0 s1 s2 s3) 1 = s1 ∧
    symbolOfByte (joinSymbols s0 s1 s2 s3) 2 = s2 ∧ symbolOfByte (joinSymbols s0 s1 s2 s3) 3 = s3 := by
  have hword := joinWord_symbols s0 s1 s2 s3
  iterate 4 rw [BitVec.extractLsb'_setWidth_of_le (by decide)] at hword
  simpa only [symbolOfByte_eq, joinSymbols] using hword

/-- The symbol packed last is the lowest pair. -/
theorem packSymbol_lowest (p : Word) (t : Symbol) : (packSymbol p t).extractLsb' 0 2 = t :=
  packWord_symbol p t

/-- Packing moves every pair but the top one up by one place. -/
theorem packSymbol_moves_up (p : Word) (t : Symbol) {k : Nat} (hk : k < 15) :
    (packSymbol p t).extractLsb' (2 * (k + 1)) 2 = p.extractLsb' (2 * k) 2 := by
  rw [packSymbol_eq_append, BitVec.extractLsb'_append_eq_of_le (by omega), show 2 * (k + 1) - 2 = 2 * k by omega,
    BitVec.extractLsb'_extractLsb'_of_le (by omega)]

/-- With the symbols listed last packed first, pair `k` of the word, counted from the lowest, is symbol `k`. -/
theorem foldr_packSymbol_pair (p0 : Word) (l : List Symbol) {k : Nat} (hl : k < l.length) (hk : k < 16) :
    (l.foldr (fun t p => packSymbol p t) p0).extractLsb' (2 * k) 2 = l[k] := by
  induction l generalizing k with
  | nil => contradiction
  | cons t l ih =>
    cases k with
    | zero => exact packSymbol_lowest _ t
    | succ k =>
      rw [List.foldr_cons, packSymbol_moves_up _ t (by omega)]
      exact ih (Nat.lt_of_succ_lt_succ hl) (by omega)

/-- Law c: sixteen packed symbols are read back in order, whatever the register held before. -/
theorem extractSymbol_foldl_packSymbol (p0 : Word) (t : Fin 16 → Symbol) (i : Fin 16) :
    extractSymbol ((List.ofFn t).foldl packSymbol p0) i = t i := by
  have hlen : 15 - i.val < (List.ofFn t).reverse.length := by
    rw [List.length_reverse, List.length_ofFn]
    omega
  have hpair := foldr_packSymbol_pair p0 (List.ofFn t).reverse hlen (by omega)
  rw [extractSymbol_eq, List.foldl_eq_foldr_reverse, show 30 - 2 * i.val = 2 * (15 - i.val) by omega, hpair]
  simp only [List.getElem_reverse, List.getElem_ofFn, List.length_ofFn]
  exact congrArg t (Fin.ext (show 16 - 1 - (15 - i.val) = i.val by omega))

/-- A word is its sixteen symbols. -/
theorem word_ext_symbols {v w : Word} (h : ∀ i, extractSymbol v i = extractSymbol w i) : v = w := by
  ext j hj
  have hbit := congrArg (·.getLsbD (j % 2)) (h ⟨15 - j / 2, by omega⟩)
  have hpos : 30 - 2 * (15 - j / 2) + j % 2 = j := by omega
  have hlt : j % 2 < 2 := by omega
  simpa [extractSymbol_eq, hpos, hlt, hj] using hbit

/-- Packing the sixteen symbols of a word makes the word. -/
theorem foldl_packSymbol_extractSymbol (p0 w : Word) : (List.ofFn (extractSymbol w)).foldl packSymbol p0 = w :=
  word_ext_symbols (extractSymbol_foldl_packSymbol p0 (extractSymbol w))

/-- The bytes of a packet, the first in the highest place (20_memory R45). -/
theorem byteOfPacket_append (b0 b1 b2 b3 : Byte) {j : Nat} (hj : j < 4) :
    byteOfPacket (b0 ++ b1 ++ b2 ++ b3) j = [b0, b1, b2, b3].getD j 0#8 := by
  rw [byteOfPacket_eq]
  match j with
  | 0 =>
    iterate 3 rw [BitVec.extractLsb'_append_eq_of_le (by decide)]
    exact BitVec.extractLsb'_eq_self
  | 1 =>
    iterate 2 rw [BitVec.extractLsb'_append_eq_of_le (by decide)]
    exact BitVec.extractLsb'_append_eq_right
  | 2 =>
    rw [BitVec.extractLsb'_append_eq_of_le (by decide)]
    exact BitVec.extractLsb'_append_eq_right
  | 3 => exact BitVec.extractLsb'_append_eq_right

/-- Law d: packing the symbols of four bytes makes the word of the four bytes. -/
theorem foldl_packSymbol_bytes (p0 : Word) (b0 b1 b2 b3 : Byte) :
    (List.ofFn fun i : Fin 16 => symbolOfByte ([b0, b1, b2, b3].getD (i.val / 4) 0#8) (i.val % 4)).foldl packSymbol p0 =
      b0 ++ b1 ++ b2 ++ b3 := by
  have hsymbols : (fun i : Fin 16 => symbolOfByte ([b0, b1, b2, b3].getD (i.val / 4) 0#8) (i.val % 4)) =
      extractSymbol (b0 ++ b1 ++ b2 ++ b3) := by
    funext i
    rw [← symbolOfPacket_eq_extractSymbol, symbolOfPacket, byteOfPacket_append b0 b1 b2 b3 (by omega)]
  rw [hsymbols, foldl_packSymbol_extractSymbol]

/-- Settles O12: the laws, one by one. -/
theorem codecLaws : Obligations.CodecLaws :=
  ⟨joinSymbols_symbolOfByte, symbolOfByte_joinSymbols, extractSymbol_foldl_packSymbol, foldl_packSymbol_bytes⟩

/-! ### Text tokens (R86, R87) -/

theorem digitOf_digitChar : ∀ d, digitOf (digitChar d) = some d := by decide

theorem eq_digitChar_of_digitOf {c : Byte} {d : BitVec 1} (h : digitOf c = some d) : c = digitChar d := by
  unfold digitOf at h
  split_ifs at h with h0 h1
  · exact Option.some.inj h ▸ h0
  · exact Option.some.inj h ▸ h1

/-- The text line of a symbol. -/
def formatted (t : Symbol) : List Byte := [(formatBitPair t).1, (formatBitPair t).2]

theorem formatted_append : ∀ d0 d1 : BitVec 1, formatted (d0 ++ d1) = [digitChar d0, digitChar d1] := by decide

theorem parseBitPair_formatted : ∀ t, parseBitPair (formatted t) = some t := by decide

/-- A line parses to a symbol exactly when it is that symbol's line. -/
theorem parseBitPair_eq_some {line : List Byte} {t : Symbol} : parseBitPair line = some t ↔ line = formatted t := by
  constructor
  · intro h
    unfold parseBitPair at h
    split at h
    case h_1 c0 c1 =>
      split at h
      case h_1 d0 d1 h0 h1 =>
        obtain rfl := Option.some.inj h
        rw [formatted_append, eq_digitChar_of_digitOf h0, eq_digitChar_of_digitOf h1]
      case h_2 => contradiction
    case h_2 => contradiction
  · rintro rfl
    exact parseBitPair_formatted t

/-- The contents that are exactly two binary digits (30_encoding R66). -/
def legalTokens : List (List Byte) := [[0x30#8, 0x30#8], [0x30#8, 0x31#8], [0x31#8, 0x30#8], [0x31#8, 0x31#8]]

theorem formatted_mem_legalTokens : ∀ t, formatted t ∈ legalTokens := by decide

theorem parseBitPair_malformed {line : List Byte} (h : line ∉ legalTokens) : parseBitPair line = none := by
  rw [Option.eq_none_iff_forall_ne_some]
  intro t ht
  exact h (parseBitPair_eq_some.1 ht ▸ formatted_mem_legalTokens t)

/-- A token that is not legal has no row. -/
theorem tokenInstr_malformed {c0 c1 : Byte} (h : [c0, c1] ∉ legalTokens) : tokenInstr c0 c1 = .error .malformedToken := by
  simp only [legalTokens, List.mem_cons, List.cons.injEq, and_true, List.not_mem_nil, or_false, not_or] at h
  obtain ⟨h00, h01, h10, h11⟩ := h
  rw [tokenInstr, if_neg h00, if_neg h01, if_neg h10, if_neg h11]

/-- Settles O14: the four texts are closed, and each parses to its symbol. -/
theorem formatBitPairResult : Obligations.FormatBitPairResult :=
  ⟨fun _ => ⟨rfl, rfl, rfl, rfl⟩, parseBitPair_formatted⟩

/-! ### Where a token is parsed (60_exceptions R161, R167, R169) -/

theorem tokenDue_iff {s : State} :
    tokenDue s = true ↔ s.symbolsSent.val < 16 ∧ (s.phase = .fetch ∨ s.phase = .symRead) := by
  simp [tokenDue]

theorem tokenDue_eq_false {s : State} :
    tokenDue s = false ↔ s.symbolsSent.val = 16 ∨ (s.phase ≠ .fetch ∧ s.phase ≠ .symRead) := by
  rw [← Bool.not_eq_true, tokenDue_iff, not_and_or, not_or]
  have := s.symbolsSent.isLt
  refine or_congr_left ?_
  omega

theorem rejectToken_awaited {s : State} (h : tokenAwaited s = true) :
    rejectToken s = exec .snMalformed (answerWith .malformed s) := by
  rw [rejectToken, if_pos h]

theorem rejectToken_unawaited {s : State} (h : tokenAwaited s = false) :
    rejectToken s = .next (answerWith .malformed s) := by
  rw [rejectToken, h]
  rfl

theorem readLine_malformed {line : List Byte} (h : line ∉ legalTokens) (s : State) : readLine line s = rejectToken s := by
  rw [readLine, parseBitPair_malformed h]

/-- The operation word of a token that is not legal is rejected as a token, not as an operation word. -/
theorem serveOperation_malformed {c0 c1 : Byte} (h : [c0, c1] ∉ legalTokens) (s : State) :
    serveOperation [5#8, 0#8, 0#8, c0, c1, 0#8] s = rejectToken s := by
  rw [serveOperation, decode_token, tokenInstr_malformed h]
  rfl

/-- A line is read where the controller awaits a token. -/
theorem step_line_awaited {s : State} {line : List Byte} {rest : List Request} (hr : s.requests = .line line :: rest)
    (h : tokenAwaited s = true) : step s = readLine line { s with requests := rest } := by
  have hwaits : ¬ lineWaits s = true := by simp [lineWaits, h]
  rw [step_line hr, if_neg hwaits, serveLine, (tokenAwaited_iff.1 h).1]

/-- A line waits while the machine performs the step of its phase. -/
theorem step_line_waiting {s : State} {line : List Byte} {rest : List Request} (hr : s.requests = .line line :: rest)
    (h : lineWaits s = true) : step s = exec (phaseInstr s.phase) s := by
  rw [step_line hr, if_pos h]

/-- In a terminal state a line is served, not kept waiting. -/
theorem step_line_terminal {s : State} {line : List Byte} {rest : List Request} (hr : s.requests = .line line :: rest)
    (h : terminal s.state = true) : step s = serveLine line { s with requests := rest } := by
  have hwaits : ¬ lineWaits s = true := by simp [lineWaits, h]
  rw [step_line hr, if_neg hwaits]

/-- Settles O13: a line is read where a token is awaited, waits in the other running places and is dropped at the end of a
session; an operation word of a token is parsed at once. -/
theorem parseBitPairResult : Obligations.ParseBitPairResult := by
  refine ⟨fun s => ⟨rfl, rfl, rfl, rfl⟩, ?_, ?_, ?_⟩
  · intro s line rest hr hs hlt hphase
    have hawaited : tokenAwaited s = true := tokenAwaited_iff.2 ⟨hs, tokenDue_iff.2 ⟨hlt, hphase⟩⟩
    rw [step_line_awaited hr hawaited]
    refine ⟨fun h => h ▸ rfl, fun h => h ▸ rfl, fun h => h ▸ rfl, fun h => h ▸ rfl, fun hline => ?_⟩
    rw [readLine_malformed hline]
    exact rejectToken_awaited hawaited
  · intro s line rest hr
    refine ⟨fun hs => ?_, fun hs hnot => ?_, fun hs => ?_, fun hs => ?_⟩
    · exact step_line_waiting hr (lineWaits_iff.2 (.inl hs))
    · exact step_line_waiting hr (lineWaits_iff.2 (.inr ⟨hs, tokenDue_eq_false.2 hnot⟩))
    · rw [step_line_terminal hr (by rw [hs]; rfl), serveLine, hs]
    · rw [step_line_terminal hr (by rw [hs]; rfl), serveLine, hs]
  · intro s c0 c1 rest hr htoken
    rw [step_operation hr, serve, serveOperation_malformed htoken]
    refine ⟨fun hs hlt hphase => ?_, fun hnot => ?_⟩
    · exact rejectToken_awaited (tokenAwaited_iff.2 ⟨hs, tokenDue_iff.2 ⟨hlt, hphase⟩⟩)
    · refine rejectToken_unawaited (Bool.eq_false_iff.2 fun hawaited => ?_)
      obtain ⟨hs, hdue⟩ := tokenAwaited_iff.1 hawaited
      obtain hne | hnot := hnot
      · exact hne hs
      · exact absurd (hdue.symm.trans (tokenDue_eq_false.2 hnot)) (by decide)

end Sys2Proof.Machine

/-! The frame encoder family (41_frame_encoder): one call as one update of the state, the checksum over a list of calls, and
what two calls with the same byte return. -/

namespace Sys2Proof.Machine

/-! ### The packet and its checksum byte (30_encoding R61) -/

theorem packetOf_checksum (b c : Byte) : (packetOf b c).extractLsb' 8 8 = c := by
  rw [packetOf, BitVec.extractLsb'_append_eq_of_le (by decide)]
  exact BitVec.extractLsb'_append_eq_right

/-- Packets of one payload differ exactly where their checksums do. -/
theorem packetOf_inj_checksum {b c c' : Byte} : packetOf b c = packetOf b c' ↔ c = c' := by
  constructor
  · intro h
    rw [← packetOf_checksum b c, h, packetOf_checksum]
  · rintro rfl
    rfl

/-! ### One call (R90) -/

/-- The state after ENCODE of a byte. -/
def afterEncode (b : Byte) (s : State) : State :=
  { s with checksum := s.checksum + b, answer := .word (packetOf b (s.checksum + b)) }

@[simp] theorem afterEncode_checksum (b : Byte) (s : State) : (afterEncode b s).checksum = s.checksum + b := rfl

@[simp] theorem afterEncode_answer (b : Byte) (s : State) :
    (afterEncode b s).answer = .word (packetOf b (s.checksum + b)) := rfl

theorem exec_encode (b : Byte) (s : State) : exec (.encode b) s = .next (afterEncode b s) := rfl

/-- Settles O15: `afterEncode` is the record of the statement, and `packetOf` its packet. -/
theorem encodeResult : Obligations.EncodeResult := exec_encode

/-! ### A list of calls (R92) -/

theorem encodeEach_cons (b : Byte) (bs : List Byte) (s : State) :
    encodeEach (b :: bs) s = encodeEach bs (afterEncode b s) := by
  rw [encodeEach, exec_encode]

/-- Settles O16, by induction on the list: the first call adds its byte, and the others continue from there. -/
theorem checksumIsCumulative : Obligations.ChecksumIsCumulative := by
  intro bs
  induction bs with
  | nil =>
    intro s
    exact ⟨s, rfl, (Nat.mod_eq_of_lt s.checksum.isLt).symm, rfl⟩
  | cons b bs ih =>
    intro s
    obtain ⟨t, hrun, hsum, hframe⟩ := ih (afterEncode b s)
    refine ⟨t, (encodeEach_cons b bs s).trans hrun, ?_, hframe⟩
    calc t.checksum.toNat
        = ((s.checksum.toNat + b.toNat) % 256 + (bs.map BitVec.toNat).sum) % 256 := by
          rw [hsum, afterEncode_checksum, BitVec.toNat_add]
      _ = (s.checksum.toNat + ((b :: bs).map BitVec.toNat).sum) % 256 := by
          rw [Nat.mod_add_mod, List.map_cons, List.sum_cons, Nat.add_assoc]

/-! ### Two calls with one byte (R93) -/

/-- Settles O17: the second call's checksum is the first's plus the byte, and the checksum tells the packets apart. -/
theorem encodeTwiceDiffers : Obligations.EncodeTwiceDiffers := by
  intro b s
  refine ⟨_, _, _, _, exec_encode b s, exec_encode b _, afterEncode_answer b s, afterEncode_answer b _, ?_, ?_⟩
  · rw [packetOf_checksum, packetOf_checksum, afterEncode_checksum, add_sub_cancel_left]
  · exact packetOf_inj_checksum.trans left_eq_add

end Sys2Proof.Machine

/-! The link transmitter family (42_link_transmitter): each row as one update of the state, the two bytes `sendSymbol` writes
pin by pin, and the bits of `OUT` no step of a session changes. -/

namespace Sys2Proof.Machine

/-! ### The rows as one update of the state (R100, R102) -/

theorem exec_sendSymbolHigh (t : Symbol) (s : State) :
    exec (.sendSymbolHigh t) s = .next { s with
      out := strobeHigh s.cfg s.out t, outHold := strobeHigh s.cfg s.out t,
      trace := .wo (strobeHigh s.cfg s.out t) :: .ro s.out :: s.trace } := rfl

theorem exec_sendSymbolLow (s : State) :
    exec .sendSymbolLow s = .next { s with
      out := strobeLow s.cfg s.outHold, outHold := strobeLow s.cfg s.outHold,
      trace := .wo (strobeLow s.cfg s.outHold) :: .dly s.cfg.dataSettle :: s.trace } := rfl

theorem exec_idleLines (s : State) :
    exec .idleLines s = .next { s with
      out := idleByte s.cfg s.out, outHold := idleByte s.cfg s.out,
      trace := .wo (idleByte s.cfg s.out) :: .ro s.out :: s.trace } := rfl

/-- Settles O18: the two bytes of the statement are `strobeHigh` and `strobeLow`. -/
theorem sendSymbolTransactions : Obligations.SendSymbolTransactions := by
  rintro t s first low rfl rfl
  exact ⟨exec_sendSymbolHigh t s, exec_sendSymbolLow s⟩

/-- Settles O20: the byte of the statement is `idleByte`. -/
theorem idleLinesResult : Obligations.IdleLinesResult := by
  rintro s v rfl
  exact exec_idleLines s

/-! ### The lines after each half (R100 corner case iv, R101) -/

theorem strobeHigh_clockBit (c : Config) (v : Byte) (t : Symbol) :
    (strobeHigh c v t).getLsbD c.pins.clockBit.val = true := by
  rw [strobeHigh_bit, if_pos rfl]

theorem strobeLow_clockBit (c : Config) (v : Byte) : (strobeLow c v).getLsbD c.pins.clockBit.val = false := by
  rw [strobeLow_bit, if_pos rfl]

/-- The first write changes no bit outside the two data pins and the clock pin. -/
theorem strobeHigh_otherBit (c : Config) (v : Byte) (t : Symbol) {k : Nat} (h0 : k ≠ c.pins.dataLow.val)
    (h1 : k ≠ c.pins.dataLow.val + 1) (hclk : k ≠ c.pins.clockBit.val) :
    (strobeHigh c v t).getLsbD k = v.getLsbD k := by
  by_cases hk : k < 8
  · simpa [h0, h1, hclk] using strobeHigh_bit c v t ⟨k, hk⟩
  · rw [BitVec.getLsbD_of_ge _ _ (by omega), BitVec.getLsbD_of_ge _ _ (by omega)]

/-- The second write changes the clock pin alone. -/
theorem strobeLow_otherBit (c : Config) (v : Byte) {k : Nat} (hclk : k ≠ c.pins.clockBit.val) :
    (strobeLow c v).getLsbD k = v.getLsbD k := by
  by_cases hk : k < 8
  · simpa [hclk] using strobeLow_bit c v ⟨k, hk⟩
  · rw [BitVec.getLsbD_of_ge _ _ (by omega), BitVec.getLsbD_of_ge _ _ (by omega)]

/-- The first write puts bit `i` of the symbol on the `i`-th data pin, neither of which is the clock pin. -/
theorem strobeHigh_dataBit (c : Config) (v : Byte) (t : Symbol) {i : Nat} (hi : i < 2) :
    (strobeHigh c v t).getLsbD (c.pins.dataLow.val + i) = t.getLsbD i := by
  obtain ⟨h0, h1, -, -⟩ := pins_apart c.pins
  have hbit := strobeHigh_bit c v t ⟨c.pins.dataLow.val + i, by omega⟩
  obtain rfl | rfl : i = 0 ∨ i = 1 := by omega
  · simpa [h0.symm] using hbit
  · simpa [h1.symm] using hbit

/-- The second write leaves the symbol on the data pins. -/
theorem strobeLow_strobeHigh_data (c : Config) (v : Byte) (t : Symbol) :
    (strobeLow c (strobeHigh c v t)).extractLsb' c.pins.dataLow.val 2 = t := by
  obtain ⟨h0, h1, -, -⟩ := pins_apart c.pins
  apply BitVec.eq_of_getLsbD_eq
  intro i hi
  rw [BitVec.getLsbD_extractLsb', decide_eq_true hi, Bool.true_and, strobeLow_otherBit c _ (by omega),
    strobeHigh_dataBit c v t hi]

/-- Settles O19: the second half writes the first half's byte with the clock bit cleared, and each byte is known pin by pin. -/
theorem linesCarrySymbol : Obligations.LinesCarrySymbol := by
  intro t s
  refine ⟨_, _, exec_sendSymbolHigh t s, exec_sendSymbolLow _, strobeLow_strobeHigh_data s.cfg s.out t,
    strobeHigh_clockBit s.cfg s.out t, strobeLow_clockBit s.cfg _, fun k h0 h1 hclk => ?_⟩
  have hhigh := strobeHigh_otherBit s.cfg s.out t h0 h1 hclk
  exact ⟨hhigh, (strobeLow_otherBit s.cfg _ hclk).trans hhigh⟩

/-! ### The foreign bits of `OUT` along a session (R101) -/

/-- The cleanup's write changes no foreign bit. -/
theorem idleByte_foreign (c : Config) (v : Byte) : idleByte c v &&& ~~~drivenMask c = v &&& ~~~drivenMask c := by
  rw [idleByte, BitVec.and_assoc, BitVec.and_self]

theorem answerPoll_out (c : Classification) (s : State) : (answerPoll c s).out = s.out := by
  cases c <;> rfl

theorem afterFetch_out (s : State) : (afterFetch s).out = s.out := by
  unfold afterFetch
  split <;> exact takeByte_snd_out s

/-- `OUT` after the step of a phase: `SYM_HIGH`, `SYM_LOW` and `CLEAN_WRITE` are the only ones that write it. -/
theorem phaseEffect_out (p : Phase) (s : State) :
    (phaseEffect p s).out =
      if p = .symHigh ∨ p = .cleanWrite then s.outHold else if p = .symLow then strobeLow s.cfg s.outHold else s.out := by
  cases p with
  | fetch => exact afterFetch_out s
  | pollFirst =>
    simp only [phaseEffect]
    split
    · exact readIn_snd_out s
    · exact (answerPoll_out _ _).trans (readIn_snd_out s)
  | pollSecond => exact (answerPoll_out _ _).trans (readIn_snd_out s)
  | retryCheck =>
    simp only [phaseEffect]
    split <;> rfl
  | init | symRead | symHigh | symHold | symLow | pollSettle | cleanRead | cleanWrite | halt => rfl

/-- The byte a session holds when a step is about to write it differs from `OUT` in driven bits alone. -/
theorem SessionInv.phaseEffect_foreign {s : State} (h : SessionInv s) :
    (phaseEffect s.phase s).out &&& ~~~drivenMask s.cfg = s.out &&& ~~~drivenMask s.cfg := by
  have hplace := h.place
  rw [phaseEffect_out]
  cases hp : s.phase with
  | symHigh =>
    simp only [PhaseInv, hp] at hplace
    obtain ⟨-, -, -, hhold⟩ := hplace
    rw [if_pos (.inl rfl), hhold, strobeHigh_foreign]
  | symLow =>
    simp only [PhaseInv, hp] at hplace
    obtain ⟨-, -, -, hout, -⟩ := hplace
    rw [if_neg (by decide), if_pos rfl, strobeLow_foreign, hout]
  | cleanWrite =>
    simp only [PhaseInv, hp] at hplace
    obtain ⟨-, -, hhold⟩ := hplace
    rw [if_pos (.inr rfl), hhold, idleByte_foreign]
  | init | fetch | symRead | symHold | pollFirst | pollSettle | pollSecond | retryCheck | cleanRead | halt => rfl

/-- Settles O21: the step of a session is the effect of its phase, which keeps the foreign bits. -/
theorem sessionKeepsForeignBits : Obligations.SessionKeepsForeignBits := by
  intro s t h hstep
  obtain ⟨-, rfl⟩ := (step_quiet_next h.quiet).1 hstep
  exact h.phaseEffect_foreign

end Sys2Proof.Machine

/-! The monitor family (43_response_monitor): what one poll does and answers. -/

namespace Sys2Proof.Machine

/-! ### A poll by its samples (R110) -/

/-- A low first sample ends the poll. -/
theorem pollResponse_low {s : State} {v : Byte} {rest : List Byte} (hv : responseHigh s.cfg v = false) :
    pollResponse { s with inAnswers := v :: rest } = (.timeout, afterSample v rest s) := by
  simp only [pollResponse, readIn_cons, hv]
  rfl

/-- After a high first sample the second, taken `RESPONSE_SETTLE` later, classifies. -/
theorem pollResponse_high {s : State} {v w : Byte} {rest : List Byte} (hv : responseHigh s.cfg v = true) :
    pollResponse { s with inAnswers := v :: w :: rest } =
      (classifySecond (responseHigh s.cfg w),
        afterSample w rest (delayFor s.cfg.responseSettle (afterSample v (w :: rest) s))) := by
  simp only [pollResponse, readIn_cons, hv]
  rfl

/-! ### The samples `H` and `L` (30_encoding R79) -/

/-- The byte that stands for a sample: `H`, the response bit alone, or `L`, no bit. -/
def sampleByte (c : Config) (high : Bool) : Byte :=
  if high then responseMask c else 0#8

/-- The byte of a sample is read as that sample. -/
theorem responseHigh_sampleByte (c : Config) (high : Bool) : responseHigh c (sampleByte c high) = high := by
  cases high <;> simp [responseHigh_eq, sampleByte, responseMask]

/-- The peer's samples stand before what `IN` has left to answer. -/
theorem presentSamples_eq (samples : List Bool) (s : State) :
    presentSamples samples s = { s with inAnswers := samples.map (sampleByte s.cfg) ++ s.inAnswers } := rfl

/-! ### The responses of the peer (R111) -/

/-- A response `0` is a timeout after one sample. -/
theorem pollOf_low (s : State) :
    pollOf [false] s =
      .next (answerWith (.classification .timeout) (afterSample (sampleByte s.cfg false) s.inAnswers s)) := by
  have hpoll := pollResponse_low (rest := s.inAnswers) (responseHigh_sampleByte s.cfg false)
  simp only [pollOf, presentSamples_eq, List.map_cons, List.map_nil, List.cons_append, List.nil_append, hpoll]

/-- A response that begins with `1` is classified by its second sample. -/
theorem pollOf_high (s : State) (second : Bool) :
    pollOf [true, second] s =
      .next (answerWith (.classification (classifySecond second))
        (afterSample (sampleByte s.cfg second) s.inAnswers (delayFor s.cfg.responseSettle
          (afterSample (sampleByte s.cfg true) (sampleByte s.cfg second :: s.inAnswers) s)))) := by
  have hpoll := pollResponse_high (w := sampleByte s.cfg second) (rest := s.inAnswers)
    (responseHigh_sampleByte s.cfg true)
  rw [responseHigh_sampleByte] at hpoll
  simp only [pollOf, presentSamples_eq, List.map_cons, List.map_nil, List.cons_append, List.nil_append, hpoll]

/-- Settles O22: each row is the poll of its response. -/
theorem pollResults : Obligations.PollResults := by
  rintro s high rfl
  exact ⟨pollOf_low s, pollOf_high s false, pollOf_high s true⟩

end Sys2Proof.Machine

/-! The retry controller family (44_retry_controller), the phase machine: which step the phase enables, what each enabled step
does, and where a step is refused. -/

namespace Sys2Proof.Machine

/-! ### Which step is enabled (R134) -/

/-- The step of the current phase has its effect where that phase allows it. -/
theorem exec_phaseInstr_allowed {p : Phase} {s : State} (hp : s.phase = p) (ha : phaseAllows p s = true) :
    exec (phaseInstr p) s = .next (phaseEffect p s) := by
  rw [exec_phaseInstr, performStep_next]
  exact ⟨stepEnabled_iff.2 ⟨hp, ha⟩, rfl⟩

/-- A step is refused outside its phase and where its phase does not allow it. -/
theorem exec_phaseInstr_refused {p : Phase} {s : State} (h : s.phase ≠ p ∨ phaseAllows p s = false) :
    exec (phaseInstr p) s = .refused (.stepNotEnabled p) := by
  have hdisabled : ¬ stepEnabled p s = true := by
    rw [stepEnabled_iff]
    rintro ⟨hp, ha⟩
    obtain h | h := h
    · exact h hp
    · simp [ha] at h
  rw [exec_phaseInstr, performStep, if_neg hdisabled]

/-- The phases a running session passes through; the other three belong to the end of a session (R131). -/
def runningPhases : List Phase :=
  [.init, .fetch, .symRead, .symHigh, .symHold, .symLow, .pollFirst, .pollSettle, .pollSecond, .retryCheck]

/-- In a terminal state no step of a running session is allowed (R131). -/
theorem phaseAllows_terminal {p : Phase} {s : State} (hs : terminal s.state = true) (hp : p ∈ runningPhases) :
    phaseAllows p s = false := by
  have hst : s.state ≠ .sendingNew ∧ s.state ≠ .retransmitting := by
    constructor <;> rintro h <;> simp [h, terminal] at hs
  obtain ⟨hsn, hrt⟩ := hst
  simp only [runningPhases, List.mem_cons, List.not_mem_nil, or_false] at hp
  obtain rfl | rfl | rfl | rfl | rfl | rfl | rfl | rfl | rfl | rfl := hp <;> simp [phaseAllows, hs, hsn, hrt]

theorem terminal_iff {st : CtrlState} : terminal st = true ↔ st = .done ∨ st = .aborted := by
  cases st <;> simp [terminal]

theorem terminal_eq_false_iff {st : CtrlState} :
    terminal st = false ↔ st = .sendingNew ∨ st = .retransmitting := by
  cases st <;> simp [terminal]

/-- The code of a phase in an operation word of the phase machine names that phase's step (30_encoding R74). -/
theorem decode_phaseCode (p : Phase) :
    decode (operationBytes .step (p.code.setWidth 32) 0#8) = .ok (phaseInstr p, []) := by
  have hword : operationBytes .step (p.code.setWidth 32) 0#8 = encode (phaseInstr p) ++ [] := by
    cases p <;> rfl
  rw [hword, decode_encode _ _ (by cases p <;> rfl)]

/-- Settles O5: the step taken with nothing asked from outside is `phaseInstr` of the phase, which its code names. -/
theorem phaseDecidesStep : Obligations.PhaseDecidesStep := by
  intro s hq
  exact ⟨phaseInstr s.phase, decode_phaseCode s.phase, step_quiet hq⟩

/-- Settles O59: each clause names a phase that is not the machine's or whose requirement fails. -/
theorem stepsRefusedElsewhere : Obligations.StepsRefusedElsewhere := by
  intro s
  refine ⟨fun p hp => ?_, fun p hp hs => ?_, fun p hp hn => ?_, fun p hp hn => ?_, fun hn => ?_, fun hs => ?_, fun hs => ?_,
    fun hs => ?_⟩
  · exact exec_phaseInstr_refused (.inl hp)
  · exact exec_phaseInstr_refused (.inr (phaseAllows_terminal (terminal_iff.2 hs) hp))
  · simp only [List.mem_cons, List.not_mem_nil, or_false] at hp
    refine exec_phaseInstr_refused (.inr ?_)
    obtain rfl | rfl | rfl | rfl := hp <;> simp [phaseAllows, hn]
  · simp only [List.mem_cons, List.not_mem_nil, or_false] at hp
    refine exec_phaseInstr_refused (.inr ?_)
    obtain rfl | rfl | rfl := hp <;> simp [phaseAllows, hn.ne]
  · exact exec_phaseInstr_refused (p := .fetch) (.inr (by simp [phaseAllows, hn]))
  · exact ⟨exec_phaseInstr_refused (p := .init) (.inr (by simp [phaseAllows, hs])),
      exec_phaseInstr_refused (p := .fetch) (.inr (by simp [phaseAllows, hs]))⟩
  · exact exec_phaseInstr_refused (p := .retryCheck) (.inr (by simp [phaseAllows, hs]))
  · have hrun : terminal s.state = false := terminal_eq_false_iff.2 hs
    exact ⟨exec_phaseInstr_refused (p := .cleanRead) (.inr hrun), exec_phaseInstr_refused (p := .cleanWrite) (.inr hrun)⟩

/-! ### The byte source and the samples by cases (45_port_primitives R150, R155) -/

theorem takeByte_cons {s : State} {b : Byte} {rest : List Byte} (h : s.source = b :: rest) :
    takeByte s =
      (some b, { s with source := rest, taken := s.taken + 1, trace := .nb (some b) :: s.trace }) := by
  rw [takeByte, h]
  rfl

theorem takeByte_ended {s : State} (h : s.source = []) (he : s.endless = false) :
    takeByte s = (none, { s with trace := .nb none :: s.trace }) := by
  simp [takeByte, h, he, emit]

theorem takeByte_endless {s : State} (h : s.source = []) (he : s.endless = true) :
    takeByte s =
      (some (Config.freeStream s.taken),
        { s with taken := s.taken + 1, trace := .nb (some (Config.freeStream s.taken)) :: s.trace }) := by
  simp [takeByte, h, he, emit]

/-- A read of `IN` as one update, whatever it answers. -/
theorem readIn_snd_eq (s : State) : (readIn s).2 = afterSample (readIn s).1 s.inAnswers.tail s := by
  unfold readIn afterSample
  split <;> simp_all [emit]

/-- The answer laid out first is read. -/
theorem readIn_fst_cons {s : State} {v : Byte} {rest : List Byte} (h : s.inAnswers = v :: rest) : (readIn s).1 = v := by
  rw [readIn, h]

theorem responseHigh_iff {c : Config} {v : Byte} : responseHigh c v = true ↔ v &&& responseMask c ≠ 0#8 := by
  simp [responseHigh]

theorem responseHigh_eq_false_iff {c : Config} {v : Byte} :
    responseHigh c v = false ↔ v &&& responseMask c = 0#8 := by
  simp [responseHigh]

/-! ### The steps one by one (R135 to R147) -/

/-- Settles O35: the effect of `INIT`. -/
theorem initStep : Obligations.InitStep := by
  intro s hp hs
  exact exec_phaseInstr_allowed hp (decide_eq_true hs)

/-- Settles O36: `FETCH` by the three cases of the byte source. -/
theorem fetchStep : Obligations.FetchStep := by
  intro s hp hs hn
  have hstep : exec .stepFetch s = .next (afterFetch s) := exec_phaseInstr_allowed hp (decide_eq_true ⟨hs, hn⟩)
  rw [hstep]
  refine ⟨fun hsrc he => ?_, fun r rest hsrc => ?_, fun hsrc he => ⟨Config.freeStream s.taken, ?_⟩⟩
  · rw [afterFetch, takeByte_ended hsrc he]
    rfl
  · rw [afterFetch, takeByte_cons hsrc]
    rfl
  · rw [afterFetch, takeByte_endless hsrc he]
    rfl

/-- The due index is the count while a symbol is due. -/
theorem dueIndex_eq {n : Fin 17} {k : Fin 16} (h : n.val = k.val) : dueIndex n = k :=
  Fin.ext ((dueIndex_val n (h ▸ k.isLt)).trans h)

/-- Settles O37: the due symbol comes from `packet` or from `package`, by the state. -/
theorem symReadStep : Obligations.SymReadStep := by
  intro s k hp hk
  have hstep (hs : terminal s.state = false) : exec .stepSymRead s = .next (symRead s) :=
    exec_phaseInstr_allowed hp (by simp [phaseAllows, hs, hk])
  refine ⟨fun hs => ?_, fun hs => ?_⟩
  · have hdue : dueSymbol s = symbolOfPacket s.packet k := by rw [dueSymbol, hs, dueIndex_eq hk]
    have hpkg : packageAfterRead s = packSymbol s.package (symbolOfPacket s.packet k) := by
      rw [packageAfterRead, hs, hdue]
    rw [hstep (by rw [hs]; rfl), symRead, hdue, hpkg]
    rfl
  · have hdue : dueSymbol s = extractSymbol s.package k := by rw [dueSymbol, hs, dueIndex_eq hk]
    have hpkg : packageAfterRead s = s.package := by rw [packageAfterRead, hs]
    rw [hstep (by rw [hs]; rfl), symRead, hdue, hpkg]
    rfl

/-- Settles O38: the count of `SYM_LOW` decides between the next symbol and the poll. -/
theorem strobeSteps : Obligations.StrobeSteps := by
  rintro s k v hs hk rfl
  have hrun : terminal s.state = false := terminal_eq_false_iff.2 hs
  have hlow (hp : s.phase = .symLow) : exec .stepSymLow s = .next (symLow s) :=
    exec_phaseInstr_allowed hp (by simp [phaseAllows, hrun, hk])
  have hcount : (countUp s.symbolsSent).val = k.val + 1 := by rw [countUp_val _ (by omega), hk]
  refine ⟨fun hp => ?_, fun hp => ?_, fun hp hlt => ?_, fun hp h15 => ?_⟩
  · exact exec_phaseInstr_allowed hp (by simp [phaseAllows, hrun, hk])
  · exact exec_phaseInstr_allowed hp (by simp [phaseAllows, hrun, hk])
  · have hnext : countUp s.symbolsSent = k.castSucc + 1 :=
      Fin.ext (by rw [hcount, Fin.val_add_one_of_lt (Fin.castSucc_lt_last k), Fin.val_castSucc])
    rw [hlow hp, symLow, hcount, if_neg (by omega), hnext]
    rfl
  · have hnext : countUp s.symbolsSent = 16 := Fin.ext (by rw [hcount, h15]; rfl)
    rw [hlow hp, symLow, hnext]
    rfl

/-- Settles O39: the first sample decides. -/
theorem pollFirstStep : Obligations.PollFirstStep := by
  intro s hp hn hs
  have hrun : terminal s.state = false := terminal_eq_false_iff.2 hs
  have hstep : exec .stepPollFirst s = .next (phaseEffect .pollFirst s) :=
    exec_phaseInstr_allowed hp (by simp [phaseAllows, hrun, hn])
  refine ⟨(readIn s).1, fun w rest => readIn_fst_cons, fun hlow => ?_, fun hhigh => ?_⟩
  · rw [hstep, phaseEffect, if_neg (by simp [responseHigh_eq_false_iff.2 hlow]), readIn_snd_eq]
    rfl
  · rw [hstep, phaseEffect, if_pos (responseHigh_iff.2 hhigh), readIn_snd_eq]
    rfl

/-- Settles O40: the second sample decides between ACK and NACK. -/
theorem pollSecondSteps : Obligations.PollSecondSteps := by
  intro s hn hs
  have hrun : terminal s.state = false := terminal_eq_false_iff.2 hs
  refine ⟨fun hp => ?_, fun hp => ⟨(readIn s).1, fun w rest => readIn_fst_cons, fun hhigh => ?_, fun hlow => ?_⟩⟩
  · exact exec_phaseInstr_allowed hp (by simp [phaseAllows, hrun, hn])
  all_goals
    have hstep : exec .stepPollSecond s = .next (phaseEffect .pollSecond s) :=
      exec_phaseInstr_allowed hp (by simp [phaseAllows, hrun, hn])
  · rw [hstep, phaseEffect, responseHigh_iff.2 hhigh, readIn_snd_eq]
    rfl
  · rw [hstep, phaseEffect, responseHigh_eq_false_iff.2 hlow, readIn_snd_eq]
    rfl

theorem boundExceeded_iff {c : Config} {n : Nat} : boundExceeded c n = true ↔ n > c.maxRetry :=
  decide_eq_true_iff

/-- The retry check past the bound: the count stays at the register's top value (10_state R25). -/
theorem exceedBound_eq {s : State} (h : s.retryCount + 1 > s.cfg.maxRetry) :
    exceedBound s =
      { s with retryCount := s.cfg.maxRetry + 1, retryBounded := Nat.le_refl _, state := .aborted,
               cause := .retryBoundExceeded, symbolsSent := 0, phase := .cleanRead } := by
  rw [exceedBound, countRetry_top s (by omega)]
  rfl

/-- Within the bound the retry is counted and a replay begins. -/
theorem beginReplay_eq {s : State} (h : s.retryCount + 1 ≤ s.cfg.maxRetry + 1) :
    beginReplay s = { s with retryCount := s.retryCount + 1, retryBounded := h, phase := .symRead } := by
  rw [beginReplay, countRetry_eq s h]

/-- Settles O41: the bound decides, on the value after the increment. -/
theorem retryCheckStep : Obligations.RetryCheckStep := by
  intro s hp hs hn hle
  have hstep : exec .stepRetryCheck s = .next (phaseEffect .retryCheck s) :=
    exec_phaseInstr_allowed hp (decide_eq_true hs)
  refine ⟨fun hgt => ?_, fun hok => ?_⟩
  · have htop : s.retryCount = s.cfg.maxRetry := by omega
    rw [hstep, phaseEffect, if_pos (boundExceeded_iff.2 hgt), exceedBound_eq hgt]
    simp [htop, hn]
  · rw [hstep, phaseEffect, if_neg (by simp [boundExceeded]; omega), beginReplay_eq (by omega)]

/-- Settles O42: the effects of `CLEAN_READ` and `CLEAN_WRITE`. -/
theorem cleanSteps : Obligations.CleanSteps := by
  intro s hs
  have hterm : terminal s.state = true := terminal_iff.2 hs
  exact ⟨fun hp => exec_phaseInstr_allowed hp hterm, fun hp => exec_phaseInstr_allowed hp hterm⟩

/-- A run goes on from the next state. -/
theorem run_succ (M : Host.Core) {s t : M.State} (h : M.step s = .next t) (n : Nat) : M.run (n + 1) s = M.run n t := by
  rw [Host.Core.run, h]

/-- A machine that the step leaves as it is stays so for any number of steps. -/
theorem run_of_step_fixed {s : State} (h : step s = .next s) (n : Nat) :
    Host.Core.run Sys2Proof.core n s = .next s := by
  induction n with
  | zero => rfl
  | succ n ih => exact (run_succ Sys2Proof.core h n).trans ih

/-- Settles O43: the effect of `HALT` is the state itself. -/
theorem haltAbsorbs : Obligations.HaltAbsorbs := by
  intro s hp
  have hstep : exec .stepHalt s = .next s := exec_phaseInstr_allowed hp rfl
  exact ⟨hstep, fun hq => run_of_step_fixed (by rw [step_quiet hq, hp]; exact hstep)⟩

/-- The step of a phase makes one transaction or none (R134). -/
theorem phaseEffect_trace (p : Phase) (s : State) :
    (phaseEffect p s).trace = s.trace ∨ ∃ e, (phaseEffect p s).trace = e :: s.trace := by
  cases p with
  | halt => exact .inl rfl
  | retryCheck =>
    refine .inl ?_
    simp only [phaseEffect]
    split <;> rfl
  | init | symRead | symHigh | symHold | symLow | pollSettle | cleanRead | cleanWrite => exact .inr ⟨_, rfl⟩
  | fetch =>
    refine .inr ⟨.nb (takeByte s).1, ?_⟩
    simp only [phaseEffect, afterFetch]
    split <;> exact takeByte_snd_trace s
  | pollFirst =>
    refine .inr ⟨.ri (readIn s).1, ?_⟩
    simp only [phaseEffect]
    split <;> exact readIn_snd_trace s
  | pollSecond =>
    refine .inr ⟨.ri (readIn s).1, ?_⟩
    simp only [phaseEffect]
    cases classifySecond (responseHigh s.cfg (readIn s).1) <;> exact readIn_snd_trace s

/-- Settles O44: the step is the effect of the phase. -/
theorem oneTransactionPerStep : Obligations.OneTransactionPerStep := by
  intro s t hq hstep
  obtain ⟨-, rfl⟩ := (step_quiet_next hq).1 hstep
  exact phaseEffect_trace s.phase s

end Sys2Proof.Machine

/-! The retry controller family (44_retry_controller), the thirteen transitions: each in its own state, and all of them in a
terminal state. -/

namespace Sys2Proof.Machine

/-! ### A transition in its own state (30_encoding R72, R76) -/

/-- A transition whose event occurs in its state has its effect. -/
theorem transit_taken {st : CtrlState} {ev : Event} {s t : State} (hs : s.state = st) (hev : eventOccurs ev s = true) :
    transit st ev s t = .next t :=
  transit_next.2 (.inl ⟨⟨hs, hev⟩, rfl⟩)

/-- Settles O25: the group of the packet just begun is one update, `sendGroup_attempt`. -/
theorem firstAttemptSendsGroup : Obligations.FirstAttemptSendsGroup := by
  rintro b s w hs hp hn rfl
  have hrow : exec (.snByte b) s = .next (sendGroup (beginPacket b s)) :=
    transit_taken hs (decide_eq_true ⟨hp, hn⟩)
  rw [hrow, sendGroup_attempt (beginPacket b s) hs hn]
  rfl

/-- Settles O26: the replay is one update, `replaySent`, and the count is below its top value. -/
theorem replaySendsRetainedPackage : Obligations.ReplaySendsRetainedPackage := by
  intro s hs hp hn hle
  have hev : eventOccurs .boundOk s = true := by simp [eventOccurs, hp, hn, boundExceeded]; omega
  refine (exec_rtBoundOk_next hs).2 ⟨hev, ?_⟩
  rw [replaySent, countRetry_eq s (by omega)]

/-- Settles O27: the row and the step have the same effect, `exceedBound`. -/
theorem exceededBoundAborts : Obligations.ExceededBoundAborts := by
  intro s hs hp hn hgt
  have hbound : boundExceeded s.cfg (s.retryCount + 1) = true := boundExceeded_iff.2 hgt
  have hrow : exec .rtBoundExceeded s = .next (exceedBound s) := transit_taken hs (by simp [eventOccurs, hp, hn, hbound])
  have hstep : exec .stepRetryCheck s = .next (phaseEffect .retryCheck s) :=
    exec_phaseInstr_allowed hp (decide_eq_true hs)
  refine ⟨?_, ?_⟩
  · rw [hrow, exceedBound_eq hgt]
    simp [hn]
  · rw [hstep, hrow, phaseEffect, if_pos hbound]

/-- Settles O28: the effect is `endSession`. -/
theorem endOfStreamEndsSession : Obligations.EndOfStreamEndsSession := by
  intro s hs hp hn
  exact transit_taken hs (decide_eq_true ⟨hp, hn⟩)

/-- After a whole group every classification can occur (43_response_monitor R114). -/
theorem eventOccurs_classification {s : State} (hn : s.symbolsSent = 16) :
    eventOccurs .ack s = true ∧ eventOccurs .nack s = true ∧ eventOccurs .timeout s = true := by
  simp [eventOccurs, hn]

/-- Settles O29: both rows have the effect `acknowledge`. -/
theorem ackFetchesNextByte : Obligations.AckFetchesNextByte := by
  intro s hn
  obtain ⟨hack, -, -⟩ := eventOccurs_classification hn
  refine ⟨fun hs => (transit_taken hs hack).trans ?_, fun hs => transit_taken hs hack⟩
  rw [acknowledge, hs]

/-- Settles O30: both rows have the effect `negative`. -/
theorem nackRetainsPackage : Obligations.NackRetainsPackage := by
  intro s hn
  obtain ⟨-, hnack, -⟩ := eventOccurs_classification hn
  refine ⟨fun hs => transit_taken hs hnack, fun hs => (transit_taken hs hnack).trans ?_⟩
  rw [negative, hs]

/-- Settles O31: both rows have the effect `takeAbort`. -/
theorem timeoutAborts : Obligations.TimeoutAborts := by
  intro s hn
  obtain ⟨-, -, htimeout⟩ := eventOccurs_classification hn
  exact ⟨fun hs => transit_taken hs htimeout, fun hs => transit_taken hs htimeout⟩

/-! ### A terminal state (R131) -/

theorem absorb_terminal {ev : Event} {s : State} (h : terminal s.state = true) :
    absorb ev s = .next (finishCleanup s) :=
  absorb_next.2 ⟨h, rfl⟩

/-- A terminal state absorbs the rows of the other two states. -/
theorem transit_terminal {st : CtrlState} {ev : Event} {s t : State} (h : terminal s.state = true)
    (hst : terminal st = false) : transit st ev s t = .next (finishCleanup s) := by
  have hne : s.state ≠ st := by
    rintro rfl
    simp [h] at hst
  rw [transit_elsewhere hne, absorb_terminal h]

/-- The cleanup before its read has been made. -/
theorem finishCleanup_entry {s : State} (hw : s.phase ≠ .cleanWrite) (hh : s.phase ≠ .halt) :
    finishCleanup s = { idle s with phase := .halt } := by
  unfold finishCleanup
  split
  next h => exact absurd h hh
  next h => exact absurd h hw
  all_goals rfl

theorem finishCleanup_cleanWrite {s : State} (h : s.phase = .cleanWrite) :
    finishCleanup s = { writeOut s.outHold s with phase := .halt } := by
  rw [finishCleanup, h]

theorem finishCleanup_halt {s : State} (h : s.phase = .halt) : finishCleanup s = s := by
  rw [finishCleanup, h]

theorem everyNext_state_transit {st : CtrlState} {ev : Event} {s t : State} (hs : terminal s.state = true)
    (hst : terminal st = false) : EveryNext (fun t => t.state = s.state) (transit st ev s t) := by
  rw [transit_terminal hs hst]
  exact everyNext_next (congrArg Records.state (records_finishCleanup s))

/-- In a terminal state a step of the phase machine is refused or belongs to the cleanup, which keeps `state`. -/
theorem everyNext_state_phaseInstr {s : State} (hs : terminal s.state = true) (p : Phase) :
    EveryNext (fun t => t.state = s.state) (exec (phaseInstr p) s) := by
  rw [exec_phaseInstr]
  refine everyNext_performStep fun ha => ?_
  by_cases hp : p ∈ runningPhases
  · simp [phaseAllows_terminal hs hp] at ha
  · cases p with
    | cleanRead | cleanWrite | halt => rfl
    | init | fetch | symRead | symHigh | symHold | symLow | pollFirst | pollSettle | pollSecond | retryCheck =>
      exact absurd (by decide) hp

/-- No instruction leads out of a terminal state. -/
theorem exec_keeps_terminal {s : State} (hs : terminal s.state = true) (i : Instr) :
    EveryNext (fun t => t.state = s.state) (exec i s) := by
  have hrecords {t : State} (h : t.records = s.records) : t.state = s.state := congrArg Records.state h
  cases i with
  | splitByte | joinSymbols | packSymbol | extractSymbol | symbolOfPacket | parseBitPair00 | parseBitPair01
  | parseBitPair10 | parseBitPair11 | formatBitPair0 | formatBitPair1 | formatBitPair2 | formatBitPair3
  | encode | sendSymbolHigh | sendSymbolLow | idleLines
  | readOutputRegister | writeOutputRegister | configureDirection | delay => exact everyNext_next rfl
  | sampleResponse | readInputRegister => exact everyNext_next (hrecords (records_readIn s))
  | pollTimeout => exact everyNext_next (hrecords (records_pollResponse_presentSamples [false] s))
  | pollNack => exact everyNext_next (hrecords (records_pollResponse_presentSamples [true, false] s))
  | pollAck => exact everyNext_next (hrecords (records_pollResponse_presentSamples [true, true] s))
  | nextByte =>
    have hr := hrecords (records_takeByte s)
    refine everyNext_next ?_
    revert hr
    obtain ⟨_ | b, s1⟩ := takeByte s <;> exact id
  | snByte | snEos | snAck | snNack | snTimeout | snMalformed
  | rtBoundOk | rtBoundExceeded | rtAck | rtNack | rtTimeout => exact everyNext_state_transit hs rfl
  | doneAny | abortedAny => exact everyNext_absorb (hrecords (records_finishCleanup s))
  | stepInit => exact everyNext_state_phaseInstr hs .init
  | stepFetch => exact everyNext_state_phaseInstr hs .fetch
  | stepSymRead => exact everyNext_state_phaseInstr hs .symRead
  | stepSymHigh => exact everyNext_state_phaseInstr hs .symHigh
  | stepSymHold => exact everyNext_state_phaseInstr hs .symHold
  | stepSymLow => exact everyNext_state_phaseInstr hs .symLow
  | stepPollFirst => exact everyNext_state_phaseInstr hs .pollFirst
  | stepPollSettle => exact everyNext_state_phaseInstr hs .pollSettle
  | stepPollSecond => exact everyNext_state_phaseInstr hs .pollSecond
  | stepRetryCheck => exact everyNext_state_phaseInstr hs .retryCheck
  | stepCleanRead => exact everyNext_state_phaseInstr hs .cleanRead
  | stepCleanWrite => exact everyNext_state_phaseInstr hs .cleanWrite
  | stepHalt => exact everyNext_state_phaseInstr hs .halt

/-- Settles O33: every transition is the cleanup, by its three cases; the frame of the instruction set gives the cause. -/
theorem terminalStatesStop : Obligations.TerminalStatesStop := by
  refine ⟨?_, fun s t i hs ht => ?_⟩
  · rintro s b e i v rfl hs hi
    have hterm : terminal s.state = true := terminal_iff.2 hs
    have hrow : exec i s = .next (finishCleanup s) := by
      simp only [List.mem_cons, List.not_mem_nil, or_false] at hi
      obtain rfl | rfl | rfl | rfl | rfl | rfl | rfl | rfl | rfl | rfl | rfl | rfl | rfl := hi
      iterate 11 exact transit_terminal hterm rfl
      all_goals exact absorb_terminal hterm
    rw [hrow]
    refine ⟨fun hw hh => ?_, fun hp => ?_, fun hp => ?_⟩
    · rw [finishCleanup_entry hw hh]
      rfl
    · rw [finishCleanup_cleanWrite hp]
      rfl
    · rw [finishCleanup_halt hp]
  · have hstate : t.state = s.state := exec_keeps_terminal (terminal_iff.2 hs) i t ht
    refine ⟨hstate, ?_⟩
    obtain hcause | ⟨hne, habort⟩ := (exec_keepsSetup i s t ht).cause
    · exact hcause
    · exact absurd (hstate.symm.trans habort) hne

end Sys2Proof.Machine

/-! The retry controller family (44_retry_controller), whole sessions: a session never stops, its runs are iterations of the
phase's effect, a turn of procedure `Session` is such a run, and a finite byte source bounds the session. -/

namespace Sys2Proof.Machine

/-! ### A run of a session is an iteration -/

/-- In a session the phase's requirement holds: the place says so (R134). -/
theorem SessionInv.allowed {s : State} (h : SessionInv s) : phaseAllows s.phase s = true := by
  have hplace := h.place
  have hrunning (ha : InAttempt s) : terminal s.state = false :=
    terminal_eq_false_iff.2 (ha.2.imp And.left And.left)
  cases hp : s.phase <;> simp only [PhaseInv, hp] at hplace
  case init => exact decide_eq_true hplace.1
  case fetch =>
    obtain ⟨hs, hn, -⟩ := hplace
    exact decide_eq_true ⟨hs, hn⟩
  case symRead | symHigh | symHold | symLow | pollFirst | pollSettle | pollSecond =>
    obtain ⟨ha, hn, -⟩ := hplace
    simp [phaseAllows, hrunning ha, hn]
  case retryCheck => exact decide_eq_true hplace.1
  case cleanRead | cleanWrite => exact hplace.1
  case halt => rfl

/-- The effect of the step the current phase enables. -/
def phaseStep (s : State) : State :=
  phaseEffect s.phase s

theorem phaseStep_of_phase {p : Phase} {s : State} (hp : s.phase = p) : phaseStep s = phaseEffect p s := by
  rw [phaseStep, hp]

/-- The step of a session. -/
theorem SessionInv.step_eq {s : State} (h : SessionInv s) : step s = .next (phaseStep s) :=
  (step_quiet_next h.quiet).2 ⟨h.allowed, rfl⟩

/-- Settles O55: the phase's requirement is part of the invariant. -/
theorem sessionNeverStops : Obligations.SessionNeverStops := by
  intro s h
  exact ⟨phaseStep s, h.step_eq⟩

theorem sessionInv_phaseStep {s : State} (h : SessionInv s) : SessionInv (phaseStep s) :=
  sessionInv_phaseEffect h

theorem sessionInv_iterate {s : State} (h : SessionInv s) (n : Nat) : SessionInv (phaseStep^[n] s) :=
  Function.Iterate.rec SessionInv h (fun _ => sessionInv_phaseStep) n

/-- A run of a session iterates the phase's effect. -/
theorem SessionInv.run_eq {s : State} (h : SessionInv s) (n : Nat) :
    Host.Core.run Sys2Proof.core n s = .next (phaseStep^[n] s) := by
  induction n generalizing s with
  | zero => rfl
  | succ n ih => exact (run_succ Sys2Proof.core h.step_eq n).trans (ih (sessionInv_phaseStep h))

/-! ### A halted session (R147, 60_exceptions R168) -/

theorem SessionInv.phaseStep_cfg {s : State} (h : SessionInv s) : (phaseStep s).cfg = s.cfg :=
  (exec_keepsSetup _ s _ ((step_quiet h.quiet).symm.trans h.step_eq)).cfg

/-- Along a session the configuration and the foreign bits of `OUT` stay (42_link_transmitter R101). -/
theorem SessionInv.iterate_foreign {s : State} (h : SessionInv s) (n : Nat) :
    (phaseStep^[n] s).cfg = s.cfg ∧
    (phaseStep^[n] s).out &&& ~~~drivenMask s.cfg = s.out &&& ~~~drivenMask s.cfg := by
  induction n generalizing s with
  | zero => exact ⟨rfl, rfl⟩
  | succ n ih =>
    obtain ⟨hcfg, hout⟩ := ih (sessionInv_phaseStep h)
    have hfirst : (phaseStep s).out &&& ~~~drivenMask s.cfg = s.out &&& ~~~drivenMask s.cfg := h.phaseEffect_foreign
    rw [h.phaseStep_cfg] at hcfg hout
    exact ⟨hcfg, hout.trans hfirst⟩

/-- How a session can have ended. -/
theorem SessionInv.ending {s : State} (h : SessionInv s) (hs : terminal s.state = true) :
    (s.state = .done ∧ s.cause = .none) ∨
    (s.state = .aborted ∧ (s.cause = .linkTimeout ∨ s.cause = .retryBoundExceeded)) := by
  obtain hs | hs := terminal_iff.1 hs
  · exact .inl ⟨hs, h.cause_none (by simp [hs])⟩
  · exact .inr ⟨hs, h.causeKind.resolve_left (h.abortedIffCause.1 hs)⟩

/-- Settles O56: a run from a loaded block keeps the invariant, whose clause of `HALT` says the rest. -/
theorem haltedSessionIsIdle : Obligations.HaltedSessionIsIdle := by
  intro cfg outInit src endless answers n t hrun hp
  have hload := loadedMeetsSessionInv cfg outInit src endless answers
  rw [hload.run_eq] at hrun
  obtain rfl := Host.Outcome.next.inj hrun
  obtain ⟨hcfg, hforeign⟩ := hload.iterate_foreign n
  have h := sessionInv_iterate hload n
  have hplace := h.place
  have htop := h.retryTop
  simp only [PhaseInv, hp, LinesIdle] at hplace
  rw [hcfg] at hplace htop
  obtain ⟨hterm, hn, hidle⟩ := hplace
  exact ⟨hidle, hn, h.ending hterm, htop.symm, hforeign⟩

/-! ### A turn of procedure `Session` (R130, R148) -/

/-- The four steps of a symbol send it. -/
theorem iterate_symbol {s : State} (hp : s.phase = .symRead) : phaseStep^[4] s = sendOne s := by
  have hfirst : phaseStep s = symRead s := phaseStep_of_phase hp
  show phaseStep (phaseStep (phaseStep (phaseStep s))) = _
  rw [hfirst]
  rfl

theorem sendOne_symbolsSent {s : State} (h : s.symbolsSent.val < 16) :
    (sendOne s).symbolsSent.val = s.symbolsSent.val + 1 :=
  countUp_val _ h

theorem sendOne_phase {s : State} (h : s.symbolsSent.val < 16) :
    (sendOne s).phase = if s.symbolsSent.val + 1 = 16 then .pollFirst else .symRead := by
  rw [sendOne_eq, countUp_val _ h]

/-- The steps of the last `n + 1` symbols of a group send them, and the poll comes next. -/
theorem iterate_symbols {s : State} (n : Nat) (hp : s.phase = .symRead) (hn : s.symbolsSent.val + (n + 1) = 16) :
    phaseStep^[4 * (n + 1)] s = sendSymbols (n + 1) s ∧ (sendSymbols (n + 1) s).phase = .pollFirst := by
  induction n generalizing s with
  | zero => exact ⟨iterate_symbol hp, (sendOne_phase (by omega)).trans (if_pos (by omega))⟩
  | succ n ih =>
    have hnext : (sendOne s).phase = .symRead := (sendOne_phase (by omega)).trans (if_neg (by omega))
    have hsent : (sendOne s).symbolsSent.val = s.symbolsSent.val + 1 := sendOne_symbolsSent (by omega)
    rw [show 4 * (n + 1 + 1) = 4 * (n + 1) + 4 from rfl, Function.iterate_add_apply, iterate_symbol hp]
    exact ih hnext (by omega)

/-- The 64 steps of a group. -/
theorem iterate_group {s : State} (hp : s.phase = .symRead) (hn : s.symbolsSent = 0) :
    phaseStep^[64] s = sendGroup s ∧ (sendGroup s).phase = .pollFirst :=
  iterate_symbols 15 hp (by simp [hn])

/-- A read of `IN` does not see the phase. -/
theorem readIn_phase (s : State) (p : Phase) :
    readIn { s with phase := p } = ((readIn s).1, { (readIn s).2 with phase := p }) := by
  unfold readIn
  cases s.inAnswers <;> rfl

/-- What an answer does sets the phase. -/
theorem answerPoll_phase (c : Classification) (s : State) (p : Phase) :
    answerPoll c { s with phase := p } = answerPoll c s := by
  cases c <;> rfl

/-- The last step of a poll answers by its second sample. -/
theorem phaseStep_pollSecond (s : State) :
    phaseStep { s with phase := .pollSecond } =
      answerPoll (classifySecond (responseHigh s.cfg (readIn s).1)) (readIn s).2 := by
  rw [phaseStep_of_phase (p := .pollSecond) rfl, phaseEffect, readIn_phase, answerPoll_phase]

/-- The one or three steps of a poll answer it. -/
theorem iterate_poll {s : State} (hp : s.phase = .pollFirst) :
    ∃ k, k ≤ 3 ∧ phaseStep^[k] s = answerPoll (pollResponse s).1 (pollResponse s).2 := by
  have hfirst : phaseStep s = phaseEffect .pollFirst s := phaseStep_of_phase hp
  cases hr : responseHigh s.cfg (readIn s).1 with
  | false =>
    refine ⟨1, by decide, ?_⟩
    simp [hfirst, phaseEffect, pollResponse, hr]
  | true =>
    refine ⟨3, le_rfl, ?_⟩
    show phaseStep (phaseStep (phaseStep s)) = _
    have hsettle : phaseStep s = { (readIn s).2 with phase := .pollSettle } := by
      rw [hfirst, phaseEffect, if_pos hr]
    have hsecond : phaseStep { (readIn s).2 with phase := .pollSettle } =
        { delayFor s.cfg.responseSettle (readIn s).2 with phase := .pollSecond } := by
      rw [phaseStep_of_phase (p := .pollSettle) rfl, phaseEffect, readIn_snd_cfg]
      rfl
    rw [hsettle, hsecond, phaseStep_pollSecond]
    simp [pollResponse, hr]

/-- A group and its poll take at most 67 steps. -/
theorem iterate_attempt {s : State} (hp : s.phase = .symRead) (hn : s.symbolsSent = 0) :
    ∃ k, k ≤ 67 ∧
      phaseStep^[k] s = answerPoll (pollResponse (sendGroup s)).1 (pollResponse (sendGroup s)).2 := by
  obtain ⟨hgroup, hpoll⟩ := iterate_group hp hn
  obtain ⟨k, hk, hanswer⟩ := iterate_poll hpoll
  refine ⟨k + 64, by omega, ?_⟩
  rw [Function.iterate_add_apply, hgroup, hanswer]

/-- A turn in `FETCH`: the end of the stream, or a byte's first attempt. -/
theorem iterate_fetch {s : State} (h : SessionInv s) (hp : s.phase = .fetch) :
    ∃ n, 1 ≤ n ∧ n ≤ 68 ∧ phaseStep^[n] s = sessionRound s := by
  have hplace := h.place
  simp only [PhaseInv, hp] at hplace
  obtain ⟨hs, hn, -⟩ := hplace
  have hfirst : phaseStep s = afterFetch s := phaseStep_of_phase hp
  have hsent := takeByte_snd_symbolsSent s
  rw [sessionRound, hs]
  rw [afterFetch] at hfirst
  revert hfirst hsent
  obtain ⟨_ | b, s1⟩ := takeByte s <;> intro hfirst hsent
  · exact ⟨1, le_rfl, by decide, hfirst⟩
  · obtain ⟨k, hk, hattempt⟩ := iterate_attempt (s := beginPacket b s1) rfl (hsent.trans hn)
    refine ⟨k + 1, by omega, by omega, ?_⟩
    rw [Function.iterate_succ_apply, hfirst]
    exact hattempt

/-- A turn in `RETRY_CHECK`: the bound is exceeded, or a replay. -/
theorem iterate_retryCheck {s : State} (h : SessionInv s) (hp : s.phase = .retryCheck) :
    ∃ n, 1 ≤ n ∧ n ≤ 68 ∧ phaseStep^[n] s = sessionRound s := by
  have hplace := h.place
  simp only [PhaseInv, hp] at hplace
  obtain ⟨hs, hn, -⟩ := hplace
  have hfirst : phaseStep s = phaseEffect .retryCheck s := phaseStep_of_phase hp
  rw [sessionRound, hs]
  cases hb : boundExceeded s.cfg (s.retryCount + 1) <;> simp only [phaseEffect, hb] at hfirst
  case true => exact ⟨1, le_rfl, by decide, hfirst⟩
  case false =>
    obtain ⟨k, hk, hattempt⟩ := iterate_attempt (s := beginReplay s) rfl hn
    refine ⟨k + 1, by omega, by omega, ?_⟩
    rw [Function.iterate_succ_apply, hfirst]
    exact hattempt

/-- The last turn: the two steps of the cleanup. -/
theorem iterate_cleanRead {s : State} (h : SessionInv s) (hp : s.phase = .cleanRead) :
    phaseStep^[2] s = sessionRound s := by
  have hplace := h.place
  simp only [PhaseInv, hp] at hplace
  have hround : sessionRound s = { idle s with phase := .halt } := by
    obtain hs | hs := terminal_iff.1 hplace.1 <;> rw [sessionRound, hs]
  have hfirst : phaseStep s = phaseEffect .cleanRead s := phaseStep_of_phase hp
  rw [hround, Function.iterate_succ_apply, hfirst]
  rfl

/-- A turn ends where the next one begins, or in `HALT`. -/
theorem sessionRound_phase (s : State) :
    (sessionRound s).phase = .fetch ∨ (sessionRound s).phase = .retryCheck ∨
    (sessionRound s).phase = .cleanRead ∨ (sessionRound s).phase = .halt := by
  have hanswer (c : Classification) (s1 : State) :
      (answerPoll c s1).phase = .fetch ∨ (answerPoll c s1).phase = .retryCheck ∨
      (answerPoll c s1).phase = .cleanRead ∨ (answerPoll c s1).phase = .halt := by
    cases c with
    | ack => exact .inl rfl
    | nack => exact .inr (.inl rfl)
    | timeout => exact .inr (.inr (.inl rfl))
  unfold sessionRound
  cases s.state with
  | sendingNew =>
    obtain ⟨_ | b, s1⟩ := takeByte s
    · exact .inr (.inr (.inl rfl))
    · exact hanswer _ _
  | retransmitting =>
    dsimp only
    split
    · exact .inr (.inr (.inl rfl))
    · exact hanswer _ _
  | done | aborted => exact .inr (.inr (.inr rfl))

/-- Settles O58: each of the three turns is a run of the phase machine. -/
theorem phaseMachineRefinesSession : Obligations.PhaseMachineRefinesSession := by
  refine ⟨fun s h hp => ?_, fun s h hp => ?_⟩
  · rw [h.run_eq, Function.iterate_one, phaseStep_of_phase hp]
    rfl
  · have hturn : ∃ n, 1 ≤ n ∧ n ≤ 68 ∧ phaseStep^[n] s = sessionRound s := by
      obtain hp | hp | hp := hp
      · exact iterate_fetch h hp
      · exact iterate_retryCheck h hp
      · exact ⟨2, by decide, by decide, iterate_cleanRead h hp⟩
    obtain ⟨n, hpos, hle, hround⟩ := hturn
    exact ⟨n, hpos, hle, by rw [h.run_eq, hround], sessionRound_phase s⟩

/-! ### A finite byte source (R132, R149)

The bound is a measure that each step of the session lowers until `HALT`. -/

/-- What the bytes still to be taken can cost: `MAX_RETRY` + 1 attempts of 68 steps for each, then the end of the stream and
the cleanup. -/
def stepsFromFetch (s : State) : Nat :=
  68 * (s.cfg.maxRetry + 1) * s.source.length + 3

/-- What is left when the retry check is due: the replays of this byte as well. -/
def stepsFromCheck (s : State) : Nat :=
  68 * (s.cfg.maxRetry - s.retryCount) + stepsFromFetch s

/-- How many steps a session with a finite byte source has left at most. -/
def stepsLeft (s : State) : Nat :=
  match s.phase with
  | .init => stepsFromFetch s + 1
  | .fetch => stepsFromFetch s
  | .symRead => stepsFromCheck s + 4 * (16 - s.symbolsSent.val) + 3
  | .symHigh => stepsFromCheck s + 4 * (16 - s.symbolsSent.val) + 2
  | .symHold => stepsFromCheck s + 4 * (16 - s.symbolsSent.val) + 1
  | .symLow => stepsFromCheck s + 4 * (16 - s.symbolsSent.val)
  | .pollFirst => stepsFromCheck s + 3
  | .pollSettle => stepsFromCheck s + 2
  | .pollSecond => stepsFromCheck s + 1
  | .retryCheck => stepsFromCheck s
  | .cleanRead => 2
  | .cleanWrite => 1
  | .halt => 0

theorem halt_of_stepsLeft_eq_zero {s : State} (h : stepsLeft s = 0) : s.phase = .halt := by
  cases hp : s.phase <;> simp [stepsLeft, stepsFromCheck, stepsFromFetch, hp] at h ⊢

theorem stepsLeft_answerPoll (c : Classification) (s : State) : stepsLeft (answerPoll c s) ≤ stepsFromCheck s := by
  cases c with
  | ack => exact Nat.le_add_left _ _
  | nack => exact le_rfl
  | timeout =>
    show 2 ≤ stepsFromCheck s
    simp only [stepsFromCheck, stepsFromFetch]
    omega

theorem stepsFromCheck_readIn (s : State) : stepsFromCheck (readIn s).2 = stepsFromCheck s := by
  simp [stepsFromCheck, stepsFromFetch]

/-- A fetch takes a byte off the source and pays for all its attempts, or ends the session. -/
theorem stepsLeft_afterFetch {s : State} (he : s.endless = false) (hn : s.symbolsSent = 0) (hr : s.retryCount = 0) :
    stepsLeft (afterFetch s) < stepsFromFetch s := by
  cases hsrc : s.source with
  | nil =>
    rw [afterFetch, takeByte_ended hsrc he]
    show 2 < stepsFromFetch s
    simp only [stepsFromFetch]
    omega
  | cons b rest =>
    have hlength : s.source.length = rest.length + 1 := by rw [hsrc]; rfl
    rw [afterFetch, takeByte_cons hsrc]
    show 68 * (s.cfg.maxRetry - s.retryCount) + (68 * (s.cfg.maxRetry + 1) * rest.length + 3) +
      4 * (16 - s.symbolsSent.val) + 3 < stepsFromFetch s
    rw [stepsFromFetch, hlength, hn, hr, Nat.mul_succ (68 * (s.cfg.maxRetry + 1))]
    simp only [Fin.val_zero]
    omega

/-- The last step of a symbol leads to the next symbol or to the poll. -/
theorem stepsLeft_symLow {s : State} (hlt : s.symbolsSent.val < 16) :
    stepsLeft (symLow s) < stepsFromCheck s + 4 * (16 - s.symbolsSent.val) := by
  have hsent : (symLow s).symbolsSent.val = s.symbolsSent.val + 1 := countUp_val _ hlt
  have hphase : (symLow s).phase = if (symLow s).symbolsSent.val = 16 then .pollFirst else .symRead := rfl
  have hcheck : stepsFromCheck (symLow s) = stepsFromCheck s := rfl
  split at hphase <;> simp only [stepsLeft, hphase, hcheck, hsent] <;> omega

/-- The retry check pays for a replay, or aborts. -/
theorem stepsLeft_retryCheck {s : State} (hn : s.symbolsSent = 0) :
    stepsLeft (phaseEffect .retryCheck s) < stepsFromCheck s := by
  simp only [phaseEffect]
  split
  next hb =>
    show 2 < stepsFromCheck s
    simp only [stepsFromCheck, stepsFromFetch]
    omega
  next hb =>
    have hb : s.retryCount + 1 ≤ s.cfg.maxRetry := by simpa [boundExceeded] using hb
    rw [beginReplay_eq (by omega)]
    show 68 * (s.cfg.maxRetry - (s.retryCount + 1)) + stepsFromFetch s + 4 * (16 - s.symbolsSent.val) + 3 < stepsFromCheck s
    rw [stepsFromCheck, hn]
    simp only [Fin.val_zero]
    omega

/-- Every step of a session lowers the bound until the session has halted. -/
theorem stepsLeft_phaseStep {s : State} (h : SessionInv s) (he : s.endless = false) :
    stepsLeft (phaseStep s) ≤ stepsLeft s - 1 := by
  have hplace := h.place
  rw [phaseStep]
  cases hp : s.phase <;> simp only [PhaseInv, hp] at hplace <;> simp only [stepsLeft.eq_def s, hp]
  case init => exact le_rfl
  case fetch =>
    obtain ⟨-, hn, hr, -⟩ := hplace
    exact Nat.le_sub_one_of_lt (stepsLeft_afterFetch he hn hr)
  case symRead | symHigh | symHold => exact le_rfl
  case symLow =>
    obtain ⟨-, hlt, -⟩ := hplace
    exact Nat.le_sub_one_of_lt (stepsLeft_symLow hlt)
  case pollFirst =>
    simp only [phaseEffect]
    split
    · exact Nat.add_le_add_right (stepsFromCheck_readIn s).le 2
    · have hanswer := stepsLeft_answerPoll .timeout (readIn s).2
      rw [stepsFromCheck_readIn] at hanswer
      omega
  case pollSettle => exact le_rfl
  case pollSecond => exact (stepsLeft_answerPoll _ _).trans_eq (stepsFromCheck_readIn s)
  case retryCheck =>
    obtain ⟨-, hn, -⟩ := hplace
    exact Nat.le_sub_one_of_lt (stepsLeft_retryCheck hn)
  case cleanRead | cleanWrite => exact le_rfl
  case halt =>
    show stepsLeft s ≤ 0
    rw [stepsLeft, hp]

/-- No step turns a finite source into an endless one. -/
theorem phaseEffect_endless (p : Phase) (s : State) : (phaseEffect p s).endless = s.endless := by
  have hanswer (c : Classification) : (answerPoll c (readIn s).2).endless = s.endless := by
    cases c <;> exact readIn_snd_endless s
  cases p with
  | fetch =>
    simp only [phaseEffect, afterFetch]
    split <;> exact takeByte_snd_endless s
  | pollFirst =>
    simp only [phaseEffect]
    split
    · exact readIn_snd_endless s
    · exact hanswer .timeout
  | pollSecond => exact hanswer _
  | retryCheck =>
    simp only [phaseEffect]
    split <;> rfl
  | init | symRead | symHigh | symHold | symLow | pollSettle | cleanRead | cleanWrite | halt => rfl

/-- After as many steps as the bound says the session has halted. -/
theorem SessionInv.halts {s : State} (h : SessionInv s) (he : s.endless = false) {n : Nat} (hn : stepsLeft s ≤ n) :
    (phaseStep^[n] s).phase = .halt := by
  induction n generalizing s with
  | zero => exact halt_of_stepsLeft_eq_zero (Nat.le_zero.1 hn)
  | succ n ih =>
    have hless := stepsLeft_phaseStep h he
    exact ih (sessionInv_phaseStep h) ((phaseEffect_endless s.phase s).trans he) (by omega)

/-- Settles O57: the bound of the statement is `stepsLeft` of the loaded block. -/
theorem finiteSessionHalts : Obligations.FiniteSessionHalts := by
  intro cfg outInit src answers
  have hload := loadedMeetsSessionInv cfg outInit src false answers
  refine ⟨_, hload.run_eq _, hload.halts rfl ?_⟩
  show 68 * (cfg.maxRetry + 1) * src.length + 3 + 1 ≤ 4 + 68 * (cfg.maxRetry + 1) * src.length
  omega

end Sys2Proof.Machine

/-! The port family (45_port_primitives): each primitive as one update of the state, `OUT` as the last value written under
every instruction, and the session restart. -/

namespace Sys2Proof.Machine

/-! ### The primitives as one update of the state (R150 to R155) -/

theorem exec_readInputRegister (s : State) :
    exec .readInputRegister s = .next { s with
      inAnswers := s.inAnswers.tail, inReads := s.inReads + 1, trace := .ri (readIn s).1 :: s.trace,
      answer := .byte (readIn s).1 } := by
  rw [exec, execReadInputRegister, readIn_snd_eq]
  rfl

theorem exec_sampleResponse (s : State) :
    exec .sampleResponse s = .next { s with
      inAnswers := s.inAnswers.tail, inReads := s.inReads + 1, trace := .ri (readIn s).1 :: s.trace,
      answer := .level ((readIn s).1.getLsbD s.cfg.pins.responseBit.val) } := by
  rw [exec, execSampleResponse, readIn_snd_eq, responseHigh_eq]
  rfl

theorem exec_readOutputRegister (s : State) :
    exec .readOutputRegister s = .next { s with trace := .ro s.out :: s.trace, answer := .byte s.out } := rfl

theorem exec_writeOutputRegister (v : Byte) (s : State) :
    exec (.writeOutputRegister v) s = .next { s with out := v, trace := .wo v :: s.trace } := rfl

theorem exec_configureDirection (m : Byte) (s : State) :
    exec (.configureDirection m) s = .next { s with dir := m, trace := .cfg m :: s.trace } := rfl

theorem exec_delay (n : Nat) (s : State) : exec (.delay n) s = .next { s with trace := .dly n :: s.trace } := rfl

/-- `NEXTBYTE` where the source has a byte to give. -/
theorem exec_nextByte_some {s s' : State} {b : Byte} (h : takeByte s = (some b, s')) :
    exec .nextByte s = .next (answerWith (.byte b) s') := by
  rw [exec, execNextByte, h]

/-- `NEXTBYTE` at the end of the stream. -/
theorem exec_nextByte_none {s s' : State} (h : takeByte s = (none, s')) :
    exec .nextByte s = .next (answerWith .endOfStream s') := by
  rw [exec, execNextByte, h]

/-- Settles O24: the byte is the one `readIn` answers. -/
theorem readsAnswerInput : Obligations.ReadsAnswerInput := by
  intro s
  exact ⟨(readIn s).1, fun _ _ hin => readIn_fst_cons hin, exec_readInputRegister s, exec_sampleResponse s⟩

/-- Settles O46: the three rows as one update each. -/
theorem portPrimitives : Obligations.PortPrimitives := by
  intro s v m n
  exact ⟨exec_writeOutputRegister v s, exec_configureDirection m s, exec_delay n s⟩

/-- Settles O48: the three cases of the byte source. -/
theorem nextByteResult : Obligations.NextByteResult := by
  intro s
  exact ⟨fun _ _ hsrc => exec_nextByte_some (takeByte_cons hsrc),
    fun hsrc he => exec_nextByte_none (takeByte_ended hsrc he),
    fun hsrc he => ⟨_, exec_nextByte_some (takeByte_endless hsrc he)⟩⟩

/-! ### `OUT` is the last value written (R151)

Only a write changes `OUT`, and its value is the newest write of the trace; every other transaction is passed over by
`lastWritten`. -/

/-- `OUT` holds the last value the trace says was written, or `first`. -/
def OutWritten (first : Byte) (s : State) : Prop :=
  s.out = lastWritten first s.trace

section

variable {first : Byte} {s : State}

theorem outWritten_writeOut (first v : Byte) (s : State) : OutWritten first (writeOut v s) := rfl

theorem outWritten_readIn (h : OutWritten first s) : OutWritten first (readIn s).2 := by
  rw [OutWritten, readIn_snd_out, readIn_snd_trace]
  exact h

theorem outWritten_takeByte (h : OutWritten first s) : OutWritten first (takeByte s).2 := by
  rw [OutWritten, takeByte_snd_out, takeByte_snd_trace]
  exact h

theorem outWritten_pollResponse (h : OutWritten first s) : OutWritten first (pollResponse s).2 := by
  have hwait : OutWritten first (delayFor s.cfg.responseSettle (readIn s).2) := outWritten_readIn h
  simp only [pollResponse]
  split
  · exact outWritten_readIn hwait
  · exact outWritten_readIn h

theorem outWritten_pollOf (h : OutWritten first s) (samples : List Bool) :
    EveryNext (OutWritten first) (pollOf samples s) :=
  everyNext_next (outWritten_pollResponse (s := presentSamples samples s) h)

theorem outWritten_answerPoll (h : OutWritten first s) (c : Classification) : OutWritten first (answerPoll c s) := by
  cases c <;> exact h

theorem outWritten_afterFetch (h : OutWritten first s) : OutWritten first (afterFetch s) := by
  unfold afterFetch
  split <;> exact outWritten_takeByte h

/-- A symbol ends with a write. -/
theorem outWritten_sendOne (first : Byte) (s : State) : OutWritten first (sendOne s) := by
  rw [sendOne_eq]
  rfl

theorem outWritten_sendGroup (first : Byte) (s : State) : OutWritten first (sendGroup s) := by
  rw [sendGroup, sendSymbols_succ]
  exact outWritten_sendOne first _

theorem outWritten_finishCleanup (h : OutWritten first s) : OutWritten first (finishCleanup s) := by
  cases hp : s.phase with
  | halt => rwa [finishCleanup_halt hp]
  | cleanWrite =>
    rw [finishCleanup_cleanWrite hp]
    rfl
  | init | fetch | symRead | symHigh | symHold | symLow | pollFirst | pollSettle | pollSecond | retryCheck | cleanRead =>
    rw [finishCleanup_entry (by simp [hp]) (by simp [hp])]
    rfl

theorem outWritten_phaseEffect (h : OutWritten first s) (p : Phase) : OutWritten first (phaseEffect p s) := by
  cases p with
  | symHigh | symLow | cleanWrite => exact outWritten_writeOut first _ _
  | init | symRead | symHold | pollSettle | cleanRead | halt => exact h
  | fetch => exact outWritten_afterFetch h
  | pollFirst =>
    simp only [phaseEffect]
    split
    · exact outWritten_readIn h
    · exact outWritten_answerPoll (outWritten_readIn h) .timeout
  | pollSecond => exact outWritten_answerPoll (outWritten_readIn h) _
  | retryCheck =>
    simp only [phaseEffect]
    split <;> exact h

theorem outWritten_phaseInstr (h : OutWritten first s) (p : Phase) :
    EveryNext (OutWritten first) (exec (phaseInstr p) s) := by
  rw [exec_phaseInstr]
  exact everyNext_performStep fun _ => outWritten_phaseEffect h p

/-- Every instruction keeps `OUT` the last value written. -/
theorem outWritten_exec (h : OutWritten first s) (i : Instr) : EveryNext (OutWritten first) (exec i s) := by
  have hc := outWritten_finishCleanup h
  cases i with
  | splitByte | joinSymbols | packSymbol | extractSymbol | symbolOfPacket | parseBitPair00 | parseBitPair01
  | parseBitPair10 | parseBitPair11 | formatBitPair0 | formatBitPair1 | formatBitPair2 | formatBitPair3
  | encode | readOutputRegister | configureDirection | delay => exact everyNext_next h
  | sendSymbolHigh | sendSymbolLow | idleLines | writeOutputRegister => exact everyNext_next (outWritten_writeOut first _ _)
  | sampleResponse | readInputRegister => exact everyNext_next (outWritten_readIn h)
  | pollTimeout => exact outWritten_pollOf h [false]
  | pollNack => exact outWritten_pollOf h [true, false]
  | pollAck => exact outWritten_pollOf h [true, true]
  | nextByte =>
    have ht := outWritten_takeByte h
    refine everyNext_next ?_
    revert ht
    obtain ⟨_ | b, s1⟩ := takeByte s <;> exact id
  | snByte | rtBoundOk => exact everyNext_transit hc fun _ => outWritten_sendGroup first _
  | snEos | snAck | snNack | snTimeout | snMalformed | rtBoundExceeded | rtAck | rtNack | rtTimeout =>
    exact everyNext_transit hc fun _ => h
  | doneAny | abortedAny => exact everyNext_absorb hc
  | stepInit => exact outWritten_phaseInstr h .init
  | stepFetch => exact outWritten_phaseInstr h .fetch
  | stepSymRead => exact outWritten_phaseInstr h .symRead
  | stepSymHigh => exact outWritten_phaseInstr h .symHigh
  | stepSymHold => exact outWritten_phaseInstr h .symHold
  | stepSymLow => exact outWritten_phaseInstr h .symLow
  | stepPollFirst => exact outWritten_phaseInstr h .pollFirst
  | stepPollSettle => exact outWritten_phaseInstr h .pollSettle
  | stepPollSecond => exact outWritten_phaseInstr h .pollSecond
  | stepRetryCheck => exact outWritten_phaseInstr h .retryCheck
  | stepCleanRead => exact outWritten_phaseInstr h .cleanRead
  | stepCleanWrite => exact outWritten_phaseInstr h .cleanWrite
  | stepHalt => exact outWritten_phaseInstr h .halt

end

/-- Settles O47: `OutWritten` is kept by every instruction. -/
theorem outIsLastWritten : Obligations.OutIsLastWritten := by
  exact ⟨exec_readOutputRegister, fun _ t i _ hout ht => outWritten_exec hout i t ht⟩

/-! ### The session restart (R156) -/

/-- Settles O49: a restart is never kept waiting, and serving it is `sessionRestart`. -/
theorem restartResetsBlock : Obligations.RestartResetsBlock := by
  intro s rest hr
  exact step_restart hr

end Sys2Proof.Machine

/-! The exceptions family (60_exceptions): a malformed token aborts where a token is due. -/

namespace Sys2Proof.Machine

/-! ### A malformed token in `SENDING_NEW` (R161, R167, R168) -/

/-- Outside a terminal state a transition is refused where its event cannot occur, even in its own state. -/
theorem transit_refused_of_not_occurs {st : CtrlState} {ev : Event} {s t : State} (hev : eventOccurs ev s = false)
    (ht : terminal s.state = false) : transit st ev s t = .refused (.eventCannotOccur s.state ev) := by
  have hnot : ¬(s.state = st ∧ eventOccurs ev s = true) := by simp [hev]
  rw [transit, if_neg hnot, absorb_refused ht]

/-- Settles O32: the event occurs exactly where a token is due, and the effect of the row is `takeAbort`. -/
theorem malformedTokenAborts : Obligations.MalformedTokenAborts := by
  intro s hs
  refine ⟨fun hlt hphase => ?_, fun hnot => ?_⟩
  · have hdue : eventOccurs .malformed s = true := tokenDue_iff.2 ⟨hlt, hphase⟩
    exact transit_taken hs hdue
  · have hnone : eventOccurs .malformed s = false := tokenDue_eq_false.2 hnot
    rw [exec, execSnMalformed, transit_refused_of_not_occurs hnone (by rw [hs]; rfl), hs]

end Sys2Proof.Machine

/-! The requests family: an operation word in front of the requests, and a bare table word placed as one. -/

namespace Sys2Proof.Machine

/-! ### A pending operation word (assumption 5) -/

theorem serveOperation_ok {bytes : List Byte} {i : Instr} (h : decode bytes = .ok (i, [])) (s : State) :
    serveOperation bytes s = exec i s := by
  rw [serveOperation, h]

/-- Settles O4: an operation word never waits, and one that decodes is its instruction. -/
theorem pendingOperationRuns : Obligations.PendingOperationRuns := by
  intro s bytes rest i hr hd
  rw [step_operation hr, serve, serveOperation_ok hd]

/-! ### A bare table word (assumptions 8 and 13) -/

/-- An operation word leaves no byte behind it. -/
theorem decode_operationBytes_rest {op : Operation} {w : Word} {x : Byte} {i : Instr} {rest : List Byte}
    (h : decode (operationBytes op w x) = .ok (i, rest)) : rest = [] := by
  rw [← List.append_nil (operationBytes op w x), decode_operationBytes] at h
  split at h
  · cases h
    rfl
  · cases h

theorem tableBytes_eq_some {nbits w : Nat} {bytes : List Byte} (h : tableBytes nbits w = some bytes) :
    ∃ op, operationBytes op (BitVec.ofNat 32 w) 0#8 = bytes := by
  obtain ⟨op, -, hop⟩ := Option.map_eq_some_iff.1 h
  exact ⟨op, hop⟩

/-- A table word that decodes is laid out as one operation word of its instruction. -/
theorem decodeTableWord_eq_some {nbits w : Nat} {i : Instr} (h : decodeTableWord nbits w = some i) :
    ∃ bytes, tableBytes nbits w = some bytes ∧ decode bytes = .ok (i, []) := by
  unfold decodeTableWord at h
  split at h
  · cases h
  next bytes hbytes =>
    split at h
    next j rest hdecode =>
      obtain ⟨op, rfl⟩ := tableBytes_eq_some hbytes
      cases decode_operationBytes_rest hdecode
      cases h
      exact ⟨_, hbytes, hdecode⟩
    · cases h

theorem withFetchWord_eq {nbits w : Nat} {i : Instr} {bytes : List Byte} (hi : decodeTableWord nbits w = some i)
    (hb : tableBytes nbits w = some bytes) (s : State) :
    s.withFetchWord nbits w = { pointAt i s with requests := .operation bytes :: (pointAt i s).requests } := by
  simp only [State.withFetchWord, placeTableWord, hi, hb, Option.getD_some]

/-- The placed word is in front of the requests that were there, so taking it away leaves the pointed state. -/
theorem step_withFetchWord {nbits w : Nat} {i : Instr} (h : decodeTableWord nbits w = some i) (s : State) :
    step (s.withFetchWord nbits w) = exec i (pointAt i s) := by
  obtain ⟨bytes, hb, hd⟩ := decodeTableWord_eq_some h
  rw [withFetchWord_eq h hb]
  exact pendingOperationRuns _ bytes (pointAt i s).requests i rfl hd

/-! ### Where the machine stands -/

/-- `t` is `s` up to where it stands: "the part a program counter plays" (10_state R28). -/
def StandsElsewhere (s t : State) : Prop :=
  ∃ (st : CtrlState) (ph : Phase) (n : Fin 17), t = { s with state := st, phase := ph, symbolsSent := n }

theorem standsElsewhere_pointAtPhase (p : Phase) (s : State) : StandsElsewhere s (pointAtPhase p s) := by
  unfold pointAtPhase
  split
  · exact ⟨_, _, _, rfl⟩
  · cases p <;> exact ⟨_, _, _, rfl⟩

/-- Only the two rows of the retry check need more than a place to stand: they set the count they check. -/
theorem standsElsewhere_pointAt {i : Instr} (hok : i ≠ .rtBoundOk) (hex : i ≠ .rtBoundExceeded) (s : State) :
    StandsElsewhere s (pointAt i s) := by
  cases i with
  | rtBoundOk => exact absurd rfl hok
  | rtBoundExceeded => exact absurd rfl hex
  | stepInit | stepFetch | stepSymRead | stepSymHigh | stepSymHold | stepSymLow | stepPollFirst | stepPollSettle
  | stepPollSecond | stepRetryCheck | stepCleanRead | stepCleanWrite | stepHalt =>
    exact standsElsewhere_pointAtPhase _ s
  | snByte | snEos | snAck | snNack | snTimeout | snMalformed | rtAck | rtNack | rtTimeout | doneAny | abortedAny =>
    exact ⟨_, _, _, rfl⟩
  | splitByte | joinSymbols | packSymbol | extractSymbol | symbolOfPacket | parseBitPair00 | parseBitPair01
  | parseBitPair10 | parseBitPair11 | formatBitPair0 | formatBitPair1 | formatBitPair2 | formatBitPair3
  | encode | sendSymbolHigh | sendSymbolLow | idleLines | sampleResponse | pollTimeout | pollNack | pollAck
  | readInputRegister | readOutputRegister | writeOutputRegister | configureDirection | delay | nextByte =>
    exact ⟨s.state, s.phase, s.symbolsSent, rfl⟩

/-- Settles O6: the step runs the placed word, and the two rows of the retry check alone need a count of their own. -/
theorem bareTableWordRuns : Obligations.BareTableWordRuns := by
  intro s nbits w i h
  refine ⟨step_withFetchWord h s, ?_⟩
  by_cases hok : i = .rtBoundOk
  · subst hok
    exact ⟨_, _, _, _, Nat.zero_le _, rfl, fun hne => absurd rfl hne⟩
  by_cases hex : i = .rtBoundExceeded
  · subst hex
    exact ⟨_, _, _, _, Nat.le_succ _, rfl, fun _ hne => absurd rfl hne⟩
  obtain ⟨st, ph, n, ht⟩ := standsElsewhere_pointAt hok hex s
  exact ⟨st, ph, n, s.retryCount, s.retryBounded, ht, fun _ _ => rfl⟩

end Sys2Proof.Machine
